-- ==== Sys2Proof/Word.lean ====
section
/-! DEFINITION. The two widths of the hardware (spec/00_scope.md R8): an 8-bit datum and a 16-bit address.
Byte-order and bit-field helpers stand in Machine/Bits.lean. -/

namespace Sys2Proof

/-- A bus datum, and the width of A, X, Y and S (R20, R21, R50). -/
abbrev Byte := BitVec 8

/-- A bus address, and the width of PC (R22, R50). -/
abbrev Word := BitVec 16

end Sys2Proof
end

