-- ==== Sys2Proof/Machine/Bits.lean ====
section
/-! DEFINITION. Bit-field, extension and byte-order helpers of spec/00_scope.md R10 and R11. -/

namespace Sys2Proof.Machine

/-- `hi(w)`: bits 15 to 8 (R10). -/
def hi (w : Word) : Byte := w.extractLsb' 8 8

/-- `lo(w)`: bits 7 to 0 (R10). -/
def lo (w : Word) : Byte := w.extractLsb' 0 8

/-- `{h, l}`: the 16-bit value `256*h + l` (R10). -/
def word (h l : Byte) : Word := h ++ l

/-- `zext_16(b)` (R11). -/
def zext16 (b : Byte) : Word := b.setWidth 16

/-- `sext_16(b)`: two's-complement extension (R11). -/
def sext16 (b : Byte) : Word := b.signExtend 16

/-- `v[i]` for a byte (R10). -/
def bit (v : Byte) (i : Nat) : Bool := v.getLsbD i

/-- `bool(hi(base) != hi(result))`: the page-cross test of R112. -/
def pageCrossed (base result : Word) : Bool := hi base != hi result

end Sys2Proof.Machine
end

