-- ==== Sys2Proof/Config.lean ====
section
/-! DEFINITION. The implementation parameters of spec/00_scope.md R8, as a record. The values taken are
`Sys2Proof.Machine.params` in Machine/Params.lean. The spec leaves no value free, so nothing here is opaque. -/

namespace Sys2Proof

/-- `ILLEGAL_POLICY` (R9): what the 105 undocumented opcode bytes decode to. The spec defines one value. -/
inductive IllegalPolicy where
  /-- One shared descriptor `ILL`: Implied, length 1, 2 cycles, no page penalty (R92, D2). -/
  | nop1
  deriving DecidableEq, Repr

/-- The quantities R8 lists by name. -/
structure Config where
  /-- `STACK_PAGE`: the high byte of every stack address (R8, R21). -/
  stackPage : Byte
  /-- `S_RESET`: S after the reset sequence (R8, R304). -/
  sReset : Byte
  /-- `VEC_NMI`: address of the low byte of the NMI vector (R8, R60). -/
  vecNmi : Word
  /-- `VEC_RESET`: address of the low byte of the reset vector (R8, R60). -/
  vecReset : Word
  /-- `VEC_IRQ`, which BRK uses as well (R8, R60, R319). -/
  vecIrq : Word
  /-- `RESET_CYCLES` (R8, R284). -/
  resetCycles : Nat
  /-- `INT_ENTRY_CYCLES` (R8, R284). -/
  intEntryCycles : Nat
  /-- `ILLEGAL_POLICY` (R8, R9). -/
  illegalPolicy : IllegalPolicy
  deriving DecidableEq, Repr

end Sys2Proof
end

