-- ==== Sys2Proof/Machine/Params.lean ====
section
/-! DEFINITION. The value of every implementation parameter (spec/00_scope.md R8). -/

namespace Sys2Proof.Machine

/-- The parameter values of R8 (decisions D2, D5, D6, D8, D9). -/
def params : Config where
  stackPage := 0x01
  sReset := 0xFD
  vecNmi := 0xFFFA
  vecReset := 0xFFFC
  vecIrq := 0xFFFE
  resetCycles := 0
  intEntryCycles := 7
  illegalPolicy := .nop1

end Sys2Proof.Machine
end

