-- ==== Sys2Proof/Syntax.lean ====
section
/-! DEFINITION. The instruction set as syntax (spec/30_encoding.md R80 to R92): mnemonics, addressing modes,
descriptors, operands as encoded, and the instructions. One constructor of `Instr` is one documented row of the
opcode table (R90), carrying that row's operand bytes; the 105 undocumented rows, which share one descriptor
(R92), are the values of `Instr.ill`. -/

namespace Sys2Proof

/-- The 56 documented mnemonics and the synthetic `ILL` (R19). -/
inductive Mnemonic where
  | LDA | LDX | LDY | STA | STX | STY
  | ADC | SBC | INC | DEC | INX | INY | DEX | DEY
  | AND | ORA | EOR | BIT
  | ASL | LSR | ROL | ROR
  | CMP | CPX | CPY
  | BCC | BCS | BEQ | BNE | BMI | BPL | BVC | BVS
  | JMP | JSR | RTS | BRK | RTI
  | PHA | PLA | PHP | PLP | TSX | TXS | TAX | TAY | TXA | TYA | CLC | SEC | CLI | SEI | CLD | SED | CLV | NOP
  | ILL
  deriving DecidableEq, Repr

/-- The 13 addressing-mode identities (R85). -/
inductive Mode where
  | implied | accumulator | immediate | zeroPage | zeroPageX | zeroPageY
  | absolute | absoluteX | absoluteY | indirect | indexedIndirect | indirectIndexed | relative
  deriving DecidableEq, Repr

/-- The instruction descriptor: the five attributes of R84. -/
structure Descriptor where
  mnemonic : Mnemonic
  mode     : Mode
  /-- Base cycle count, before penalties. -/
  cycles   : Nat
  /-- Byte length, 1 to 3. -/
  length   : Nat
  /-- Page-penalty eligibility (R88). -/
  penalty  : Bool
  deriving DecidableEq, Repr

/-- An addressing mode together with the operand bytes the instruction carries for it: `b` is the byte at
`PC+1`, `w` the little-endian 16-bit value at `PC+1`, `PC+2` (R86). -/
inductive Operand where
  | implied
  | accumulator
  | immediate (v : Byte)
  | zeroPage (b : Byte)
  | zeroPageX (b : Byte)
  | zeroPageY (b : Byte)
  | absolute (w : Word)
  | absoluteX (w : Word)
  | absoluteY (w : Word)
  | indirect (w : Word)
  | indexedIndirect (b : Byte)
  | indirectIndexed (b : Byte)
  | relative (b : Byte)
  deriving DecidableEq, Repr

/-- The instructions: one constructor per documented row of the opcode table (R90), named by its mnemonic and the
short name of its mode (R85), and `ill` for the rows of R92. -/
inductive Instr where
  -- LDA (R141)
  /-- `LDA #$nn`, opcode 0xA9. -/
  | ldaImm (b : Byte)
  /-- `LDA $nn`, opcode 0xA5. -/
  | ldaZp (b : Byte)
  /-- `LDA $nn,X`, opcode 0xB5. -/
  | ldaZpx (b : Byte)
  /-- `LDA $nnnn`, opcode 0xAD. -/
  | ldaAbs (w : Word)
  /-- `LDA $nnnn,X`, opcode 0xBD. -/
  | ldaAbx (w : Word)
  /-- `LDA $nnnn,Y`, opcode 0xB9. -/
  | ldaAby (w : Word)
  /-- `LDA ($nn,X)`, opcode 0xA1. -/
  | ldaIzx (b : Byte)
  /-- `LDA ($nn),Y`, opcode 0xB1. -/
  | ldaIzy (b : Byte)
  -- LDX (R142)
  /-- `LDX #$nn`, opcode 0xA2. -/
  | ldxImm (b : Byte)
  /-- `LDX $nn`, opcode 0xA6. -/
  | ldxZp (b : Byte)
  /-- `LDX $nn,Y`, opcode 0xB6. -/
  | ldxZpy (b : Byte)
  /-- `LDX $nnnn`, opcode 0xAE. -/
  | ldxAbs (w : Word)
  /-- `LDX $nnnn,Y`, opcode 0xBE. -/
  | ldxAby (w : Word)
  -- LDY (R143)
  /-- `LDY #$nn`, opcode 0xA0. -/
  | ldyImm (b : Byte)
  /-- `LDY $nn`, opcode 0xA4. -/
  | ldyZp (b : Byte)
  /-- `LDY $nn,X`, opcode 0xB4. -/
  | ldyZpx (b : Byte)
  /-- `LDY $nnnn`, opcode 0xAC. -/
  | ldyAbs (w : Word)
  /-- `LDY $nnnn,X`, opcode 0xBC. -/
  | ldyAbx (w : Word)
  -- STA (R144)
  /-- `STA $nn`, opcode 0x85. -/
  | staZp (b : Byte)
  /-- `STA $nn,X`, opcode 0x95. -/
  | staZpx (b : Byte)
  /-- `STA $nnnn`, opcode 0x8D. -/
  | staAbs (w : Word)
  /-- `STA $nnnn,X`, opcode 0x9D. -/
  | staAbx (w : Word)
  /-- `STA $nnnn,Y`, opcode 0x99. -/
  | staAby (w : Word)
  /-- `STA ($nn,X)`, opcode 0x81. -/
  | staIzx (b : Byte)
  /-- `STA ($nn),Y`, opcode 0x91. -/
  | staIzy (b : Byte)
  -- STX (R145)
  /-- `STX $nn`, opcode 0x86. -/
  | stxZp (b : Byte)
  /-- `STX $nn,Y`, opcode 0x96. -/
  | stxZpy (b : Byte)
  /-- `STX $nnnn`, opcode 0x8E. -/
  | stxAbs (w : Word)
  -- STY (R146)
  /-- `STY $nn`, opcode 0x84. -/
  | styZp (b : Byte)
  /-- `STY $nn,X`, opcode 0x94. -/
  | styZpx (b : Byte)
  /-- `STY $nnnn`, opcode 0x8C. -/
  | styAbs (w : Word)
  -- ADC (R151)
  /-- `ADC #$nn`, opcode 0x69. -/
  | adcImm (b : Byte)
  /-- `ADC $nn`, opcode 0x65. -/
  | adcZp (b : Byte)
  /-- `ADC $nn,X`, opcode 0x75. -/
  | adcZpx (b : Byte)
  /-- `ADC $nnnn`, opcode 0x6D. -/
  | adcAbs (w : Word)
  /-- `ADC $nnnn,X`, opcode 0x7D. -/
  | adcAbx (w : Word)
  /-- `ADC $nnnn,Y`, opcode 0x79. -/
  | adcAby (w : Word)
  /-- `ADC ($nn,X)`, opcode 0x61. -/
  | adcIzx (b : Byte)
  /-- `ADC ($nn),Y`, opcode 0x71. -/
  | adcIzy (b : Byte)
  -- SBC (R152)
  /-- `SBC #$nn`, opcode 0xE9. -/
  | sbcImm (b : Byte)
  /-- `SBC $nn`, opcode 0xE5. -/
  | sbcZp (b : Byte)
  /-- `SBC $nn,X`, opcode 0xF5. -/
  | sbcZpx (b : Byte)
  /-- `SBC $nnnn`, opcode 0xED. -/
  | sbcAbs (w : Word)
  /-- `SBC $nnnn,X`, opcode 0xFD. -/
  | sbcAbx (w : Word)
  /-- `SBC $nnnn,Y`, opcode 0xF9. -/
  | sbcAby (w : Word)
  /-- `SBC ($nn,X)`, opcode 0xE1. -/
  | sbcIzx (b : Byte)
  /-- `SBC ($nn),Y`, opcode 0xF1. -/
  | sbcIzy (b : Byte)
  -- INC (R155)
  /-- `INC $nn`, opcode 0xE6. -/
  | incZp (b : Byte)
  /-- `INC $nn,X`, opcode 0xF6. -/
  | incZpx (b : Byte)
  /-- `INC $nnnn`, opcode 0xEE. -/
  | incAbs (w : Word)
  /-- `INC $nnnn,X`, opcode 0xFE. -/
  | incAbx (w : Word)
  -- DEC (R156)
  /-- `DEC $nn`, opcode 0xC6. -/
  | decZp (b : Byte)
  /-- `DEC $nn,X`, opcode 0xD6. -/
  | decZpx (b : Byte)
  /-- `DEC $nnnn`, opcode 0xCE. -/
  | decAbs (w : Word)
  /-- `DEC $nnnn,X`, opcode 0xDE. -/
  | decAbx (w : Word)
  -- INX (R157)
  /-- `INX`, opcode 0xE8. -/
  | inx
  -- INY (R158)
  /-- `INY`, opcode 0xC8. -/
  | iny
  -- DEX (R159)
  /-- `DEX`, opcode 0xCA. -/
  | dex
  -- DEY (R160)
  /-- `DEY`, opcode 0x88. -/
  | dey
  -- AND (R171)
  /-- `AND #$nn`, opcode 0x29. -/
  | andImm (b : Byte)
  /-- `AND $nn`, opcode 0x25. -/
  | andZp (b : Byte)
  /-- `AND $nn,X`, opcode 0x35. -/
  | andZpx (b : Byte)
  /-- `AND $nnnn`, opcode 0x2D. -/
  | andAbs (w : Word)
  /-- `AND $nnnn,X`, opcode 0x3D. -/
  | andAbx (w : Word)
  /-- `AND $nnnn,Y`, opcode 0x39. -/
  | andAby (w : Word)
  /-- `AND ($nn,X)`, opcode 0x21. -/
  | andIzx (b : Byte)
  /-- `AND ($nn),Y`, opcode 0x31. -/
  | andIzy (b : Byte)
  -- ORA (R172)
  /-- `ORA #$nn`, opcode 0x09. -/
  | oraImm (b : Byte)
  /-- `ORA $nn`, opcode 0x05. -/
  | oraZp (b : Byte)
  /-- `ORA $nn,X`, opcode 0x15. -/
  | oraZpx (b : Byte)
  /-- `ORA $nnnn`, opcode 0x0D. -/
  | oraAbs (w : Word)
  /-- `ORA $nnnn,X`, opcode 0x1D. -/
  | oraAbx (w : Word)
  /-- `ORA $nnnn,Y`, opcode 0x19. -/
  | oraAby (w : Word)
  /-- `ORA ($nn,X)`, opcode 0x01. -/
  | oraIzx (b : Byte)
  /-- `ORA ($nn),Y`, opcode 0x11. -/
  | oraIzy (b : Byte)
  -- EOR (R173)
  /-- `EOR #$nn`, opcode 0x49. -/
  | eorImm (b : Byte)
  /-- `EOR $nn`, opcode 0x45. -/
  | eorZp (b : Byte)
  /-- `EOR $nn,X`, opcode 0x55. -/
  | eorZpx (b : Byte)
  /-- `EOR $nnnn`, opcode 0x4D. -/
  | eorAbs (w : Word)
  /-- `EOR $nnnn,X`, opcode 0x5D. -/
  | eorAbx (w : Word)
  /-- `EOR $nnnn,Y`, opcode 0x59. -/
  | eorAby (w : Word)
  /-- `EOR ($nn,X)`, opcode 0x41. -/
  | eorIzx (b : Byte)
  /-- `EOR ($nn),Y`, opcode 0x51. -/
  | eorIzy (b : Byte)
  -- BIT (R174)
  /-- `BIT $nn`, opcode 0x24. -/
  | bitZp (b : Byte)
  /-- `BIT $nnnn`, opcode 0x2C. -/
  | bitAbs (w : Word)
  -- ASL (R181)
  /-- `ASL A`, opcode 0x0A. -/
  | aslAcc
  /-- `ASL $nn`, opcode 0x06. -/
  | aslZp (b : Byte)
  /-- `ASL $nn,X`, opcode 0x16. -/
  | aslZpx (b : Byte)
  /-- `ASL $nnnn`, opcode 0x0E. -/
  | aslAbs (w : Word)
  /-- `ASL $nnnn,X`, opcode 0x1E. -/
  | aslAbx (w : Word)
  -- LSR (R182)
  /-- `LSR A`, opcode 0x4A. -/
  | lsrAcc
  /-- `LSR $nn`, opcode 0x46. -/
  | lsrZp (b : Byte)
  /-- `LSR $nn,X`, opcode 0x56. -/
  | lsrZpx (b : Byte)
  /-- `LSR $nnnn`, opcode 0x4E. -/
  | lsrAbs (w : Word)
  /-- `LSR $nnnn,X`, opcode 0x5E. -/
  | lsrAbx (w : Word)
  -- ROL (R183)
  /-- `ROL A`, opcode 0x2A. -/
  | rolAcc
  /-- `ROL $nn`, opcode 0x26. -/
  | rolZp (b : Byte)
  /-- `ROL $nn,X`, opcode 0x36. -/
  | rolZpx (b : Byte)
  /-- `ROL $nnnn`, opcode 0x2E. -/
  | rolAbs (w : Word)
  /-- `ROL $nnnn,X`, opcode 0x3E. -/
  | rolAbx (w : Word)
  -- ROR (R184)
  /-- `ROR A`, opcode 0x6A. -/
  | rorAcc
  /-- `ROR $nn`, opcode 0x66. -/
  | rorZp (b : Byte)
  /-- `ROR $nn,X`, opcode 0x76. -/
  | rorZpx (b : Byte)
  /-- `ROR $nnnn`, opcode 0x6E. -/
  | rorAbs (w : Word)
  /-- `ROR $nnnn,X`, opcode 0x7E. -/
  | rorAbx (w : Word)
  -- CMP (R191)
  /-- `CMP #$nn`, opcode 0xC9. -/
  | cmpImm (b : Byte)
  /-- `CMP $nn`, opcode 0xC5. -/
  | cmpZp (b : Byte)
  /-- `CMP $nn,X`, opcode 0xD5. -/
  | cmpZpx (b : Byte)
  /-- `CMP $nnnn`, opcode 0xCD. -/
  | cmpAbs (w : Word)
  /-- `CMP $nnnn,X`, opcode 0xDD. -/
  | cmpAbx (w : Word)
  /-- `CMP $nnnn,Y`, opcode 0xD9. -/
  | cmpAby (w : Word)
  /-- `CMP ($nn,X)`, opcode 0xC1. -/
  | cmpIzx (b : Byte)
  /-- `CMP ($nn),Y`, opcode 0xD1. -/
  | cmpIzy (b : Byte)
  -- CPX (R192)
  /-- `CPX #$nn`, opcode 0xE0. -/
  | cpxImm (b : Byte)
  /-- `CPX $nn`, opcode 0xE4. -/
  | cpxZp (b : Byte)
  /-- `CPX $nnnn`, opcode 0xEC. -/
  | cpxAbs (w : Word)
  -- CPY (R193)
  /-- `CPY #$nn`, opcode 0xC0. -/
  | cpyImm (b : Byte)
  /-- `CPY $nn`, opcode 0xC4. -/
  | cpyZp (b : Byte)
  /-- `CPY $nnnn`, opcode 0xCC. -/
  | cpyAbs (w : Word)
  -- BCC (R201)
  /-- `BCC label`, opcode 0x90. -/
  | bcc (b : Byte)
  -- BCS (R202)
  /-- `BCS label`, opcode 0xB0. -/
  | bcs (b : Byte)
  -- BEQ (R203)
  /-- `BEQ label`, opcode 0xF0. -/
  | beq (b : Byte)
  -- BNE (R204)
  /-- `BNE label`, opcode 0xD0. -/
  | bne (b : Byte)
  -- BMI (R205)
  /-- `BMI label`, opcode 0x30. -/
  | bmi (b : Byte)
  -- BPL (R206)
  /-- `BPL label`, opcode 0x10. -/
  | bpl (b : Byte)
  -- BVC (R207)
  /-- `BVC label`, opcode 0x50. -/
  | bvc (b : Byte)
  -- BVS (R208)
  /-- `BVS label`, opcode 0x70. -/
  | bvs (b : Byte)
  -- JMP (R221, R222)
  /-- `JMP $nnnn`, opcode 0x4C. -/
  | jmpAbs (w : Word)
  /-- `JMP ($nnnn)`, opcode 0x6C. -/
  | jmpInd (w : Word)
  -- JSR (R223)
  /-- `JSR $nnnn`, opcode 0x20. -/
  | jsr (w : Word)
  -- RTS (R224)
  /-- `RTS`, opcode 0x60. -/
  | rts
  -- BRK (R225)
  /-- `BRK`, opcode 0x00. -/
  | brk
  -- RTI (R226)
  /-- `RTI`, opcode 0x40. -/
  | rti
  -- PHA (R241)
  /-- `PHA`, opcode 0x48. -/
  | pha
  -- PLA (R242)
  /-- `PLA`, opcode 0x68. -/
  | pla
  -- PHP (R243)
  /-- `PHP`, opcode 0x08. -/
  | php
  -- PLP (R244)
  /-- `PLP`, opcode 0x28. -/
  | plp
  -- TSX (R245)
  /-- `TSX`, opcode 0xBA. -/
  | tsx
  -- TXS (R246)
  /-- `TXS`, opcode 0x9A. -/
  | txs
  -- TAX (R247)
  /-- `TAX`, opcode 0xAA. -/
  | tax
  -- TAY (R248)
  /-- `TAY`, opcode 0xA8. -/
  | tay
  -- TXA (R249)
  /-- `TXA`, opcode 0x8A. -/
  | txa
  -- TYA (R250)
  /-- `TYA`, opcode 0x98. -/
  | tya
  -- CLC (R251)
  /-- `CLC`, opcode 0x18. -/
  | clc
  -- SEC (R252)
  /-- `SEC`, opcode 0x38. -/
  | sec
  -- CLI (R253)
  /-- `CLI`, opcode 0x58. -/
  | cli
  -- SEI (R254)
  /-- `SEI`, opcode 0x78. -/
  | sei
  -- CLD (R255)
  /-- `CLD`, opcode 0xD8. -/
  | cld
  -- SED (R256)
  /-- `SED`, opcode 0xF8. -/
  | sed
  -- CLV (R257)
  /-- `CLV`, opcode 0xB8. -/
  | clv
  -- NOP (R258)
  /-- `NOP`, opcode 0xEA. -/
  | nop
  -- ILL (R262)
  /-- One of the 105 undocumented opcode bytes (R92); `WellFormed.lean` checks that it is one. -/
  | ill (opcode : Byte)
  deriving DecidableEq, Repr

end Sys2Proof
end

