-- ==== Sys2Proof/Decode.lean ====
section
/-! DEFINITION. The decoder block (spec/30_encoding.md): the opcode table of R90 with the default row of R92, the
lookup of R83, decoding of any bytes, and the encoder, written from the same encodings.

A row says, beside its descriptor, how the operand bytes of its format (R81, R86) make an instruction. -/

namespace Sys2Proof

open Sys2Proof.Machine (word hi lo params)

/-- Length of the format a mode uses (R81, R85). -/
def Mode.length : Mode → Nat
  | .implied | .accumulator => 1
  | .immediate | .zeroPage | .zeroPageX | .zeroPageY | .indexedIndirect | .indirectIndexed | .relative => 2
  | .absolute | .absoluteX | .absoluteY | .indirect => 3

/-- The instruction of a row, as a function of its operand bytes: none (format F1), the byte `b` (F2) or the
16-bit value `w` (F3) of R86. -/
inductive Assembler where
  | f1 (i : Instr)
  | f2 (make : Byte → Instr)
  | f3 (make : Word → Instr)

/-- One row of the opcode table (R90). -/
structure Row where
  opcode   : Byte
  mnemonic : Mnemonic
  mode     : Mode
  cycles   : Nat
  penalty  : Bool
  make     : Assembler

/-- The descriptor of a row (R84); its length is that of its mode's format. -/
def Row.descriptor (r : Row) : Descriptor :=
  ⟨r.mnemonic, r.mode, r.cycles, r.mode.length, r.penalty⟩

/-- The documented opcodes 0x00 to 0x0F (R90). -/
def opcodeRows0 : List Row := [
  ⟨0x00, .BRK, .implied, 7, false, .f1 .brk⟩,
  ⟨0x01, .ORA, .indexedIndirect, 6, false, .f2 .oraIzx⟩,
  ⟨0x05, .ORA, .zeroPage, 3, false, .f2 .oraZp⟩,
  ⟨0x06, .ASL, .zeroPage, 5, false, .f2 .aslZp⟩,
  ⟨0x08, .PHP, .implied, 3, false, .f1 .php⟩,
  ⟨0x09, .ORA, .immediate, 2, false, .f2 .oraImm⟩,
  ⟨0x0A, .ASL, .accumulator, 2, false, .f1 .aslAcc⟩,
  ⟨0x0D, .ORA, .absolute, 4, false, .f3 .oraAbs⟩,
  ⟨0x0E, .ASL, .absolute, 6, false, .f3 .aslAbs⟩]

/-- The documented opcodes 0x10 to 0x1F (R90). -/
def opcodeRows1 : List Row := [
  ⟨0x10, .BPL, .relative, 2, false, .f2 .bpl⟩,
  ⟨0x11, .ORA, .indirectIndexed, 5, true, .f2 .oraIzy⟩,
  ⟨0x15, .ORA, .zeroPageX, 4, false, .f2 .oraZpx⟩,
  ⟨0x16, .ASL, .zeroPageX, 6, false, .f2 .aslZpx⟩,
  ⟨0x18, .CLC, .implied, 2, false, .f1 .clc⟩,
  ⟨0x19, .ORA, .absoluteY, 4, true, .f3 .oraAby⟩,
  ⟨0x1D, .ORA, .absoluteX, 4, true, .f3 .oraAbx⟩,
  ⟨0x1E, .ASL, .absoluteX, 7, false, .f3 .aslAbx⟩]

/-- The documented opcodes 0x20 to 0x2F (R90). -/
def opcodeRows2 : List Row := [
  ⟨0x20, .JSR, .absolute, 6, false, .f3 .jsr⟩,
  ⟨0x21, .AND, .indexedIndirect, 6, false, .f2 .andIzx⟩,
  ⟨0x24, .BIT, .zeroPage, 3, false, .f2 .bitZp⟩,
  ⟨0x25, .AND, .zeroPage, 3, false, .f2 .andZp⟩,
  ⟨0x26, .ROL, .zeroPage, 5, false, .f2 .rolZp⟩,
  ⟨0x28, .PLP, .implied, 4, false, .f1 .plp⟩,
  ⟨0x29, .AND, .immediate, 2, false, .f2 .andImm⟩,
  ⟨0x2A, .ROL, .accumulator, 2, false, .f1 .rolAcc⟩,
  ⟨0x2C, .BIT, .absolute, 4, false, .f3 .bitAbs⟩,
  ⟨0x2D, .AND, .absolute, 4, false, .f3 .andAbs⟩,
  ⟨0x2E, .ROL, .absolute, 6, false, .f3 .rolAbs⟩]

/-- The documented opcodes 0x30 to 0x3F (R90). -/
def opcodeRows3 : List Row := [
  ⟨0x30, .BMI, .relative, 2, false, .f2 .bmi⟩,
  ⟨0x31, .AND, .indirectIndexed, 5, true, .f2 .andIzy⟩,
  ⟨0x35, .AND, .zeroPageX, 4, false, .f2 .andZpx⟩,
  ⟨0x36, .ROL, .zeroPageX, 6, false, .f2 .rolZpx⟩,
  ⟨0x38, .SEC, .implied, 2, false, .f1 .sec⟩,
  ⟨0x39, .AND, .absoluteY, 4, true, .f3 .andAby⟩,
  ⟨0x3D, .AND, .absoluteX, 4, true, .f3 .andAbx⟩,
  ⟨0x3E, .ROL, .absoluteX, 7, false, .f3 .rolAbx⟩]

/-- The documented opcodes 0x40 to 0x4F (R90). -/
def opcodeRows4 : List Row := [
  ⟨0x40, .RTI, .implied, 6, false, .f1 .rti⟩,
  ⟨0x41, .EOR, .indexedIndirect, 6, false, .f2 .eorIzx⟩,
  ⟨0x45, .EOR, .zeroPage, 3, false, .f2 .eorZp⟩,
  ⟨0x46, .LSR, .zeroPage, 5, false, .f2 .lsrZp⟩,
  ⟨0x48, .PHA, .implied, 3, false, .f1 .pha⟩,
  ⟨0x49, .EOR, .immediate, 2, false, .f2 .eorImm⟩,
  ⟨0x4A, .LSR, .accumulator, 2, false, .f1 .lsrAcc⟩,
  ⟨0x4C, .JMP, .absolute, 3, false, .f3 .jmpAbs⟩,
  ⟨0x4D, .EOR, .absolute, 4, false, .f3 .eorAbs⟩,
  ⟨0x4E, .LSR, .absolute, 6, false, .f3 .lsrAbs⟩]

/-- The documented opcodes 0x50 to 0x5F (R90). -/
def opcodeRows5 : List Row := [
  ⟨0x50, .BVC, .relative, 2, false, .f2 .bvc⟩,
  ⟨0x51, .EOR, .indirectIndexed, 5, true, .f2 .eorIzy⟩,
  ⟨0x55, .EOR, .zeroPageX, 4, false, .f2 .eorZpx⟩,
  ⟨0x56, .LSR, .zeroPageX, 6, false, .f2 .lsrZpx⟩,
  ⟨0x58, .CLI, .implied, 2, false, .f1 .cli⟩,
  ⟨0x59, .EOR, .absoluteY, 4, true, .f3 .eorAby⟩,
  ⟨0x5D, .EOR, .absoluteX, 4, true, .f3 .eorAbx⟩,
  ⟨0x5E, .LSR, .absoluteX, 7, false, .f3 .lsrAbx⟩]

/-- The documented opcodes 0x60 to 0x6F (R90). -/
def opcodeRows6 : List Row := [
  ⟨0x60, .RTS, .implied, 6, false, .f1 .rts⟩,
  ⟨0x61, .ADC, .indexedIndirect, 6, false, .f2 .adcIzx⟩,
  ⟨0x65, .ADC, .zeroPage, 3, false, .f2 .adcZp⟩,
  ⟨0x66, .ROR, .zeroPage, 5, false, .f2 .rorZp⟩,
  ⟨0x68, .PLA, .implied, 4, false, .f1 .pla⟩,
  ⟨0x69, .ADC, .immediate, 2, false, .f2 .adcImm⟩,
  ⟨0x6A, .ROR, .accumulator, 2, false, .f1 .rorAcc⟩,
  ⟨0x6C, .JMP, .indirect, 5, false, .f3 .jmpInd⟩,
  ⟨0x6D, .ADC, .absolute, 4, false, .f3 .adcAbs⟩,
  ⟨0x6E, .ROR, .absolute, 6, false, .f3 .rorAbs⟩]

/-- The documented opcodes 0x70 to 0x7F (R90). -/
def opcodeRows7 : List Row := [
  ⟨0x70, .BVS, .relative, 2, false, .f2 .bvs⟩,
  ⟨0x71, .ADC, .indirectIndexed, 5, true, .f2 .adcIzy⟩,
  ⟨0x75, .ADC, .zeroPageX, 4, false, .f2 .adcZpx⟩,
  ⟨0x76, .ROR, .zeroPageX, 6, false, .f2 .rorZpx⟩,
  ⟨0x78, .SEI, .implied, 2, false, .f1 .sei⟩,
  ⟨0x79, .ADC, .absoluteY, 4, true, .f3 .adcAby⟩,
  ⟨0x7D, .ADC, .absoluteX, 4, true, .f3 .adcAbx⟩,
  ⟨0x7E, .ROR, .absoluteX, 7, false, .f3 .rorAbx⟩]

/-- The documented opcodes 0x80 to 0x8F (R90). -/
def opcodeRows8 : List Row := [
  ⟨0x81, .STA, .indexedIndirect, 6, false, .f2 .staIzx⟩,
  ⟨0x84, .STY, .zeroPage, 3, false, .f2 .styZp⟩,
  ⟨0x85, .STA, .zeroPage, 3, false, .f2 .staZp⟩,
  ⟨0x86, .STX, .zeroPage, 3, false, .f2 .stxZp⟩,
  ⟨0x88, .DEY, .implied, 2, false, .f1 .dey⟩,
  ⟨0x8A, .TXA, .implied, 2, false, .f1 .txa⟩,
  ⟨0x8C, .STY, .absolute, 4, false, .f3 .styAbs⟩,
  ⟨0x8D, .STA, .absolute, 4, false, .f3 .staAbs⟩,
  ⟨0x8E, .STX, .absolute, 4, false, .f3 .stxAbs⟩]

/-- The documented opcodes 0x90 to 0x9F (R90). -/
def opcodeRows9 : List Row := [
  ⟨0x90, .BCC, .relative, 2, false, .f2 .bcc⟩,
  ⟨0x91, .STA, .indirectIndexed, 6, false, .f2 .staIzy⟩,
  ⟨0x94, .STY, .zeroPageX, 4, false, .f2 .styZpx⟩,
  ⟨0x95, .STA, .zeroPageX, 4, false, .f2 .staZpx⟩,
  ⟨0x96, .STX, .zeroPageY, 4, false, .f2 .stxZpy⟩,
  ⟨0x98, .TYA, .implied, 2, false, .f1 .tya⟩,
  ⟨0x99, .STA, .absoluteY, 5, false, .f3 .staAby⟩,
  ⟨0x9A, .TXS, .implied, 2, false, .f1 .txs⟩,
  ⟨0x9D, .STA, .absoluteX, 5, false, .f3 .staAbx⟩]

/-- The documented opcodes 0xA0 to 0xAF (R90). -/
def opcodeRowsA : List Row := [
  ⟨0xA0, .LDY, .immediate, 2, false, .f2 .ldyImm⟩,
  ⟨0xA1, .LDA, .indexedIndirect, 6, false, .f2 .ldaIzx⟩,
  ⟨0xA2, .LDX, .immediate, 2, false, .f2 .ldxImm⟩,
  ⟨0xA4, .LDY, .zeroPage, 3, false, .f2 .ldyZp⟩,
  ⟨0xA5, .LDA, .zeroPage, 3, false, .f2 .ldaZp⟩,
  ⟨0xA6, .LDX, .zeroPage, 3, false, .f2 .ldxZp⟩,
  ⟨0xA8, .TAY, .implied, 2, false, .f1 .tay⟩,
  ⟨0xA9, .LDA, .immediate, 2, false, .f2 .ldaImm⟩,
  ⟨0xAA, .TAX, .implied, 2, false, .f1 .tax⟩,
  ⟨0xAC, .LDY, .absolute, 4, false, .f3 .ldyAbs⟩,
  ⟨0xAD, .LDA, .absolute, 4, false, .f3 .ldaAbs⟩,
  ⟨0xAE, .LDX, .absolute, 4, false, .f3 .ldxAbs⟩]

/-- The documented opcodes 0xB0 to 0xBF (R90). -/
def opcodeRowsB : List Row := [
  ⟨0xB0, .BCS, .relative, 2, false, .f2 .bcs⟩,
  ⟨0xB1, .LDA, .indirectIndexed, 5, true, .f2 .ldaIzy⟩,
  ⟨0xB4, .LDY, .zeroPageX, 4, false, .f2 .ldyZpx⟩,
  ⟨0xB5, .LDA, .zeroPageX, 4, false, .f2 .ldaZpx⟩,
  ⟨0xB6, .LDX, .zeroPageY, 4, false, .f2 .ldxZpy⟩,
  ⟨0xB8, .CLV, .implied, 2, false, .f1 .clv⟩,
  ⟨0xB9, .LDA, .absoluteY, 4, true, .f3 .ldaAby⟩,
  ⟨0xBA, .TSX, .implied, 2, false, .f1 .tsx⟩,
  ⟨0xBC, .LDY, .absoluteX, 4, true, .f3 .ldyAbx⟩,
  ⟨0xBD, .LDA, .absoluteX, 4, true, .f3 .ldaAbx⟩,
  ⟨0xBE, .LDX, .absoluteY, 4, true, .f3 .ldxAby⟩]

/-- The documented opcodes 0xC0 to 0xCF (R90). -/
def opcodeRowsC : List Row := [
  ⟨0xC0, .CPY, .immediate, 2, false, .f2 .cpyImm⟩,
  ⟨0xC1, .CMP, .indexedIndirect, 6, false, .f2 .cmpIzx⟩,
  ⟨0xC4, .CPY, .zeroPage, 3, false, .f2 .cpyZp⟩,
  ⟨0xC5, .CMP, .zeroPage, 3, false, .f2 .cmpZp⟩,
  ⟨0xC6, .DEC, .zeroPage, 5, false, .f2 .decZp⟩,
  ⟨0xC8, .INY, .implied, 2, false, .f1 .iny⟩,
  ⟨0xC9, .CMP, .immediate, 2, false, .f2 .cmpImm⟩,
  ⟨0xCA, .DEX, .implied, 2, false, .f1 .dex⟩,
  ⟨0xCC, .CPY, .absolute, 4, false, .f3 .cpyAbs⟩,
  ⟨0xCD, .CMP, .absolute, 4, false, .f3 .cmpAbs⟩,
  ⟨0xCE, .DEC, .absolute, 6, false, .f3 .decAbs⟩]

/-- The documented opcodes 0xD0 to 0xDF (R90). -/
def opcodeRowsD : List Row := [
  ⟨0xD0, .BNE, .relative, 2, false, .f2 .bne⟩,
  ⟨0xD1, .CMP, .indirectIndexed, 5, true, .f2 .cmpIzy⟩,
  ⟨0xD5, .CMP, .zeroPageX, 4, false, .f2 .cmpZpx⟩,
  ⟨0xD6, .DEC, .zeroPageX, 6, false, .f2 .decZpx⟩,
  ⟨0xD8, .CLD, .implied, 2, false, .f1 .cld⟩,
  ⟨0xD9, .CMP, .absoluteY, 4, true, .f3 .cmpAby⟩,
  ⟨0xDD, .CMP, .absoluteX, 4, true, .f3 .cmpAbx⟩,
  ⟨0xDE, .DEC, .absoluteX, 7, false, .f3 .decAbx⟩]

/-- The documented opcodes 0xE0 to 0xEF (R90). -/
def opcodeRowsE : List Row := [
  ⟨0xE0, .CPX, .immediate, 2, false, .f2 .cpxImm⟩,
  ⟨0xE1, .SBC, .indexedIndirect, 6, false, .f2 .sbcIzx⟩,
  ⟨0xE4, .CPX, .zeroPage, 3, false, .f2 .cpxZp⟩,
  ⟨0xE5, .SBC, .zeroPage, 3, false, .f2 .sbcZp⟩,
  ⟨0xE6, .INC, .zeroPage, 5, false, .f2 .incZp⟩,
  ⟨0xE8, .INX, .implied, 2, false, .f1 .inx⟩,
  ⟨0xE9, .SBC, .immediate, 2, false, .f2 .sbcImm⟩,
  ⟨0xEA, .NOP, .implied, 2, false, .f1 .nop⟩,
  ⟨0xEC, .CPX, .absolute, 4, false, .f3 .cpxAbs⟩,
  ⟨0xED, .SBC, .absolute, 4, false, .f3 .sbcAbs⟩,
  ⟨0xEE, .INC, .absolute, 6, false, .f3 .incAbs⟩]

/-- The documented opcodes 0xF0 to 0xFF (R90). -/
def opcodeRowsF : List Row := [
  ⟨0xF0, .BEQ, .relative, 2, false, .f2 .beq⟩,
  ⟨0xF1, .SBC, .indirectIndexed, 5, true, .f2 .sbcIzy⟩,
  ⟨0xF5, .SBC, .zeroPageX, 4, false, .f2 .sbcZpx⟩,
  ⟨0xF6, .INC, .zeroPageX, 6, false, .f2 .incZpx⟩,
  ⟨0xF8, .SED, .implied, 2, false, .f1 .sed⟩,
  ⟨0xF9, .SBC, .absoluteY, 4, true, .f3 .sbcAby⟩,
  ⟨0xFD, .SBC, .absoluteX, 4, true, .f3 .sbcAbx⟩,
  ⟨0xFE, .INC, .absoluteX, 7, false, .f3 .incAbx⟩]

/-- The documented rows by the high hexadecimal digit of their opcode, as in the grid of R91. -/
def opcodeGrid : List (List Row) :=
  [opcodeRows0, opcodeRows1, opcodeRows2, opcodeRows3, opcodeRows4, opcodeRows5,
   opcodeRows6, opcodeRows7, opcodeRows8, opcodeRows9, opcodeRowsA, opcodeRowsB,
   opcodeRowsC, opcodeRowsD, opcodeRowsE, opcodeRowsF]

/-- The 151 documented rows, in byte order (R90). -/
def opcodeTable : List Row := opcodeGrid.flatten

/-- The row of an undocumented byte under a policy (R92). -/
def illegalRow (op : Byte) : IllegalPolicy → Row
  | .nop1 => ⟨op, .ILL, .implied, 2, false, .f1 (.ill op)⟩

/-- The row an opcode byte selects, looked for among those of its high digit: total over all 256 bytes (R83). -/
def lookupRow (op : Byte) : Row :=
  ((opcodeGrid.getD (op.toNat / 16) []).find? fun r => r.opcode == op).getD (illegalRow op params.illegalPolicy)

/-- `lookup(opcode_byte)` (R83): a pure, total function of the byte. -/
def lookup (op : Byte) : Descriptor := (lookupRow op).descriptor

/-- Why bytes are not an instruction. Every opcode byte decodes (R83), so only missing bytes are refused. -/
inductive DecodeError where
  /-- There is no opcode byte. -/
  | noOpcode
  /-- The opcode's format has more bytes than were given. -/
  | missingOperand (opcode : Byte)
  deriving DecidableEq, Repr

/-- Reads one instruction from bytes at ascending addresses (R80, R81) and returns the bytes after it. -/
def decode : List Byte → Except DecodeError (Instr × List Byte)
  | [] => .error .noOpcode
  | op :: rest =>
    match (lookupRow op).make, rest with
    | .f1 i, rest => .ok (i, rest)
    | .f2 make, b :: rest => .ok (make b, rest)
    | .f3 make, l :: h :: rest => .ok (make (word h l), rest)
    | _, _ => .error (.missingOperand op)

/-- The opcode byte of an instruction (R90, R92). -/
def Instr.opcode : Instr → Byte
  | .ldaImm _ => 0xA9
  | .ldaZp _ => 0xA5
  | .ldaZpx _ => 0xB5
  | .ldaAbs _ => 0xAD
  | .ldaAbx _ => 0xBD
  | .ldaAby _ => 0xB9
  | .ldaIzx _ => 0xA1
  | .ldaIzy _ => 0xB1
  | .ldxImm _ => 0xA2
  | .ldxZp _ => 0xA6
  | .ldxZpy _ => 0xB6
  | .ldxAbs _ => 0xAE
  | .ldxAby _ => 0xBE
  | .ldyImm _ => 0xA0
  | .ldyZp _ => 0xA4
  | .ldyZpx _ => 0xB4
  | .ldyAbs _ => 0xAC
  | .ldyAbx _ => 0xBC
  | .staZp _ => 0x85
  | .staZpx _ => 0x95
  | .staAbs _ => 0x8D
  | .staAbx _ => 0x9D
  | .staAby _ => 0x99
  | .staIzx _ => 0x81
  | .staIzy _ => 0x91
  | .stxZp _ => 0x86
  | .stxZpy _ => 0x96
  | .stxAbs _ => 0x8E
  | .styZp _ => 0x84
  | .styZpx _ => 0x94
  | .styAbs _ => 0x8C
  | .adcImm _ => 0x69
  | .adcZp _ => 0x65
  | .adcZpx _ => 0x75
  | .adcAbs _ => 0x6D
  | .adcAbx _ => 0x7D
  | .adcAby _ => 0x79
  | .adcIzx _ => 0x61
  | .adcIzy _ => 0x71
  | .sbcImm _ => 0xE9
  | .sbcZp _ => 0xE5
  | .sbcZpx _ => 0xF5
  | .sbcAbs _ => 0xED
  | .sbcAbx _ => 0xFD
  | .sbcAby _ => 0xF9
  | .sbcIzx _ => 0xE1
  | .sbcIzy _ => 0xF1
  | .incZp _ => 0xE6
  | .incZpx _ => 0xF6
  | .incAbs _ => 0xEE
  | .incAbx _ => 0xFE
  | .decZp _ => 0xC6
  | .decZpx _ => 0xD6
  | .decAbs _ => 0xCE
  | .decAbx _ => 0xDE
  | .inx => 0xE8
  | .iny => 0xC8
  | .dex => 0xCA
  | .dey => 0x88
  | .andImm _ => 0x29
  | .andZp _ => 0x25
  | .andZpx _ => 0x35
  | .andAbs _ => 0x2D
  | .andAbx _ => 0x3D
  | .andAby _ => 0x39
  | .andIzx _ => 0x21
  | .andIzy _ => 0x31
  | .oraImm _ => 0x09
  | .oraZp _ => 0x05
  | .oraZpx _ => 0x15
  | .oraAbs _ => 0x0D
  | .oraAbx _ => 0x1D
  | .oraAby _ => 0x19
  | .oraIzx _ => 0x01
  | .oraIzy _ => 0x11
  | .eorImm _ => 0x49
  | .eorZp _ => 0x45
  | .eorZpx _ => 0x55
  | .eorAbs _ => 0x4D
  | .eorAbx _ => 0x5D
  | .eorAby _ => 0x59
  | .eorIzx _ => 0x41
  | .eorIzy _ => 0x51
  | .bitZp _ => 0x24
  | .bitAbs _ => 0x2C
  | .aslAcc => 0x0A
  | .aslZp _ => 0x06
  | .aslZpx _ => 0x16
  | .aslAbs _ => 0x0E
  | .aslAbx _ => 0x1E
  | .lsrAcc => 0x4A
  | .lsrZp _ => 0x46
  | .lsrZpx _ => 0x56
  | .lsrAbs _ => 0x4E
  | .lsrAbx _ => 0x5E
  | .rolAcc => 0x2A
  | .rolZp _ => 0x26
  | .rolZpx _ => 0x36
  | .rolAbs _ => 0x2E
  | .rolAbx _ => 0x3E
  | .rorAcc => 0x6A
  | .rorZp _ => 0x66
  | .rorZpx _ => 0x76
  | .rorAbs _ => 0x6E
  | .rorAbx _ => 0x7E
  | .cmpImm _ => 0xC9
  | .cmpZp _ => 0xC5
  | .cmpZpx _ => 0xD5
  | .cmpAbs _ => 0xCD
  | .cmpAbx _ => 0xDD
  | .cmpAby _ => 0xD9
  | .cmpIzx _ => 0xC1
  | .cmpIzy _ => 0xD1
  | .cpxImm _ => 0xE0
  | .cpxZp _ => 0xE4
  | .cpxAbs _ => 0xEC
  | .cpyImm _ => 0xC0
  | .cpyZp _ => 0xC4
  | .cpyAbs _ => 0xCC
  | .bcc _ => 0x90
  | .bcs _ => 0xB0
  | .beq _ => 0xF0
  | .bne _ => 0xD0
  | .bmi _ => 0x30
  | .bpl _ => 0x10
  | .bvc _ => 0x50
  | .bvs _ => 0x70
  | .jmpAbs _ => 0x4C
  | .jmpInd _ => 0x6C
  | .jsr _ => 0x20
  | .rts => 0x60
  | .brk => 0x00
  | .rti => 0x40
  | .pha => 0x48
  | .pla => 0x68
  | .php => 0x08
  | .plp => 0x28
  | .tsx => 0xBA
  | .txs => 0x9A
  | .tax => 0xAA
  | .tay => 0xA8
  | .txa => 0x8A
  | .tya => 0x98
  | .clc => 0x18
  | .sec => 0x38
  | .cli => 0x58
  | .sei => 0x78
  | .cld => 0xD8
  | .sed => 0xF8
  | .clv => 0xB8
  | .nop => 0xEA
  | .ill op => op

/-- The addressing mode of an instruction with its operand bytes (R86, R90). -/
def Instr.operand : Instr → Operand
  | .ldaImm b => .immediate b
  | .ldaZp b => .zeroPage b
  | .ldaZpx b => .zeroPageX b
  | .ldaAbs w => .absolute w
  | .ldaAbx w => .absoluteX w
  | .ldaAby w => .absoluteY w
  | .ldaIzx b => .indexedIndirect b
  | .ldaIzy b => .indirectIndexed b
  | .ldxImm b => .immediate b
  | .ldxZp b => .zeroPage b
  | .ldxZpy b => .zeroPageY b
  | .ldxAbs w => .absolute w
  | .ldxAby w => .absoluteY w
  | .ldyImm b => .immediate b
  | .ldyZp b => .zeroPage b
  | .ldyZpx b => .zeroPageX b
  | .ldyAbs w => .absolute w
  | .ldyAbx w => .absoluteX w
  | .staZp b => .zeroPage b
  | .staZpx b => .zeroPageX b
  | .staAbs w => .absolute w
  | .staAbx w => .absoluteX w
  | .staAby w => .absoluteY w
  | .staIzx b => .indexedIndirect b
  | .staIzy b => .indirectIndexed b
  | .stxZp b => .zeroPage b
  | .stxZpy b => .zeroPageY b
  | .stxAbs w => .absolute w
  | .styZp b => .zeroPage b
  | .styZpx b => .zeroPageX b
  | .styAbs w => .absolute w
  | .adcImm b => .immediate b
  | .adcZp b => .zeroPage b
  | .adcZpx b => .zeroPageX b
  | .adcAbs w => .absolute w
  | .adcAbx w => .absoluteX w
  | .adcAby w => .absoluteY w
  | .adcIzx b => .indexedIndirect b
  | .adcIzy b => .indirectIndexed b
  | .sbcImm b => .immediate b
  | .sbcZp b => .zeroPage b
  | .sbcZpx b => .zeroPageX b
  | .sbcAbs w => .absolute w
  | .sbcAbx w => .absoluteX w
  | .sbcAby w => .absoluteY w
  | .sbcIzx b => .indexedIndirect b
  | .sbcIzy b => .indirectIndexed b
  | .incZp b => .zeroPage b
  | .incZpx b => .zeroPageX b
  | .incAbs w => .absolute w
  | .incAbx w => .absoluteX w
  | .decZp b => .zeroPage b
  | .decZpx b => .zeroPageX b
  | .decAbs w => .absolute w
  | .decAbx w => .absoluteX w
  | .inx => .implied
  | .iny => .implied
  | .dex => .implied
  | .dey => .implied
  | .andImm b => .immediate b
  | .andZp b => .zeroPage b
  | .andZpx b => .zeroPageX b
  | .andAbs w => .absolute w
  | .andAbx w => .absoluteX w
  | .andAby w => .absoluteY w
  | .andIzx b => .indexedIndirect b
  | .andIzy b => .indirectIndexed b
  | .oraImm b => .immediate b
  | .oraZp b => .zeroPage b
  | .oraZpx b => .zeroPageX b
  | .oraAbs w => .absolute w
  | .oraAbx w => .absoluteX w
  | .oraAby w => .absoluteY w
  | .oraIzx b => .indexedIndirect b
  | .oraIzy b => .indirectIndexed b
  | .eorImm b => .immediate b
  | .eorZp b => .zeroPage b
  | .eorZpx b => .zeroPageX b
  | .eorAbs w => .absolute w
  | .eorAbx w => .absoluteX w
  | .eorAby w => .absoluteY w
  | .eorIzx b => .indexedIndirect b
  | .eorIzy b => .indirectIndexed b
  | .bitZp b => .zeroPage b
  | .bitAbs w => .absolute w
  | .aslAcc => .accumulator
  | .aslZp b => .zeroPage b
  | .aslZpx b => .zeroPageX b
  | .aslAbs w => .absolute w
  | .aslAbx w => .absoluteX w
  | .lsrAcc => .accumulator
  | .lsrZp b => .zeroPage b
  | .lsrZpx b => .zeroPageX b
  | .lsrAbs w => .absolute w
  | .lsrAbx w => .absoluteX w
  | .rolAcc => .accumulator
  | .rolZp b => .zeroPage b
  | .rolZpx b => .zeroPageX b
  | .rolAbs w => .absolute w
  | .rolAbx w => .absoluteX w
  | .rorAcc => .accumulator
  | .rorZp b => .zeroPage b
  | .rorZpx b => .zeroPageX b
  | .rorAbs w => .absolute w
  | .rorAbx w => .absoluteX w
  | .cmpImm b => .immediate b
  | .cmpZp b => .zeroPage b
  | .cmpZpx b => .zeroPageX b
  | .cmpAbs w => .absolute w
  | .cmpAbx w => .absoluteX w
  | .cmpAby w => .absoluteY w
  | .cmpIzx b => .indexedIndirect b
  | .cmpIzy b => .indirectIndexed b
  | .cpxImm b => .immediate b
  | .cpxZp b => .zeroPage b
  | .cpxAbs w => .absolute w
  | .cpyImm b => .immediate b
  | .cpyZp b => .zeroPage b
  | .cpyAbs w => .absolute w
  | .bcc b => .relative b
  | .bcs b => .relative b
  | .beq b => .relative b
  | .bne b => .relative b
  | .bmi b => .relative b
  | .bpl b => .relative b
  | .bvc b => .relative b
  | .bvs b => .relative b
  | .jmpAbs w => .absolute w
  | .jmpInd w => .indirect w
  | .jsr w => .absolute w
  | .rts => .implied
  | .brk => .implied
  | .rti => .implied
  | .pha => .implied
  | .pla => .implied
  | .php => .implied
  | .plp => .implied
  | .tsx => .implied
  | .txs => .implied
  | .tax => .implied
  | .tay => .implied
  | .txa => .implied
  | .tya => .implied
  | .clc => .implied
  | .sec => .implied
  | .cli => .implied
  | .sei => .implied
  | .cld => .implied
  | .sed => .implied
  | .clv => .implied
  | .nop => .implied
  | .ill _ => .implied

/-- The operand bytes at `PC+1`, `PC+2`, low byte first (R81, R86). -/
def Operand.bytes : Operand → List Byte
  | .implied | .accumulator => []
  | .immediate b | .zeroPage b | .zeroPageX b | .zeroPageY b => [b]
  | .indexedIndirect b | .indirectIndexed b | .relative b => [b]
  | .absolute w | .absoluteX w | .absoluteY w | .indirect w => [lo w, hi w]

/-- The mode an operand is in. -/
def Operand.mode : Operand → Mode
  | .implied => .implied
  | .accumulator => .accumulator
  | .immediate _ => .immediate
  | .zeroPage _ => .zeroPage
  | .zeroPageX _ => .zeroPageX
  | .zeroPageY _ => .zeroPageY
  | .absolute _ => .absolute
  | .absoluteX _ => .absoluteX
  | .absoluteY _ => .absoluteY
  | .indirect _ => .indirect
  | .indexedIndirect _ => .indexedIndirect
  | .indirectIndexed _ => .indirectIndexed
  | .relative _ => .relative

/-- The descriptor the opcode table holds for an instruction. -/
def Instr.descriptor (i : Instr) : Descriptor := lookup i.opcode

/-- The encoder: the opcode byte, then the operand bytes (R80, R81). -/
def encode (i : Instr) : List Byte := i.opcode :: i.operand.bytes

/-- Byte `k` of a word numbered as spec/opcode_table.json numbers it: the first byte is bits 7 to 0, the next
bits 15 to 8, and so on; every bit from `nbits` up is 0. -/
def tableByte (nbits w k : Nat) : Byte := BitVec.ofNat 8 (w % 2 ^ nbits / 256 ^ k)

/-- The (up to three) bytes of a table word, in memory order. -/
def tableBytes (nbits w : Nat) : List Byte := [tableByte nbits w 0, tableByte nbits w 1, tableByte nbits w 2]

/-- The instruction the decoder reads from a table word; operand bytes above `nbits` are zero. -/
def decodeTableWord (nbits w : Nat) : Option Instr :=
  match decode (tableBytes nbits w) with
  | .ok (i, _) => some i
  | .error _ => none

end Sys2Proof
end

