-- ==== Sys2Proof/Machine/State.lean ====
section
/-! DEFINITION. The state of the core and of the memory behind its bus (spec/10_state.md), the outputs of a step
(spec/00_scope.md R16), the reasons a step can stop, and the state at power-up (R42). -/

namespace Sys2Proof.Machine

/-- The control state machine's state (R37, R281). `servicingInterrupt` is entered and left inside one step. -/
inductive Fsm where
  | reset
  | running
  | servicingInterrupt
  | halted
  deriving DecidableEq, Repr

/-- One access on the memory bus (R50): a read with the byte the bus answered, or a write. -/
inductive BusAccess where
  | read (addr : Word) (value : Byte)
  | write (addr : Word) (value : Byte)
  deriving DecidableEq, Repr

/-- The memory behind the bus (R39, R52): cells at strictly rising addresses, none equal to what an unlisted
address reads as. Its operations are in Machine/Memory.lean. -/
abbrev Memory := List Host.Cell

/-- Everything the spec gives the machine. -/
structure State where
  /-- A, the accumulator (R20). -/
  a : Byte
  /-- X, index register (R20). -/
  x : Byte
  /-- Y, index register (R20). -/
  y : Byte
  /-- S, the stack pointer: an offset into page 1 (R21). -/
  sp : Byte
  /-- PC: the address of the next opcode byte (R22). -/
  pc : Word
  /-- Carry (R25). -/
  c : Bool
  /-- Zero (R26). -/
  z : Bool
  /-- Interrupt-Disable (R27). -/
  i : Bool
  /-- Decimal (R28): storage only. -/
  d : Bool
  /-- Overflow (R29). -/
  v : Bool
  /-- Negative (R30). -/
  n : Bool
  /-- CYC: elapsed cycles, unbounded (R36). -/
  cyc : Nat
  /-- FSM (R37). -/
  fsm : Fsm
  /-- NMI_PEND, the NMI request latch (R38). -/
  nmiPend : Bool
  /-- IRQ_PEND, the IRQ request latch (R38). -/
  irqPend : Bool
  /-- The memory behind the bus (R39). -/
  mem : Memory
  /-- Output of the last step: the cycles it charged (R16, R288). The model's own place for it: log 7. -/
  cycles : Nat
  /-- Output of the last step: it executed an illegal opcode (R16, R288). The model's own place for it: log 7. -/
  illegalOp : Bool
  /-- The bus accesses of the last step, in order (R57, R58). The model's own field: log 7. -/
  bus : List BusAccess
  deriving DecidableEq, Repr

/-- Why the machine stops. The hardware has no faults (R14, R300); both reasons name a situation that a rule says
never occurs, and no step from a state the machine can be in raises either. -/
inductive Fault where
  /-- Raised by a step that begins with FSM = ServicingInterrupt, which R280 says never happens (log 10). Safe. -/
  | servicingAtBoundary
  /-- Raised by an operand access that R126 says never occurs: a read of no operand, a write to no operand or to a
  literal, or a jump whose operand is no address (log 11). Safe. -/
  | operandMisuse
  deriving DecidableEq, Repr

/-- Why a step is refused. -/
inductive Refusal where
  /-- Raised by an arm of `exec` whose instruction has no meaning yet; no arm does. Safe. -/
  | notModelled (mnemonic : String)
  deriving DecidableEq, Repr

/-- The outcome of a step or of an instruction. -/
abbrev Result := Host.Outcome State Fault Refusal

/-- The state at power-up, before the first step (R42's column "at power-up", R340): FSM is Reset, and the first
step is the reset sequence that loads PC, S and I (log 1, log 2). -/
def State.reset : State where
  a := 0
  x := 0
  y := 0
  sp := 0
  pc := 0
  c := false
  z := false
  i := false
  d := false
  v := false
  n := false
  cyc := 0
  fsm := .reset
  nmiPend := false
  irqPend := false
  mem := []
  cycles := 0
  illegalOp := false
  bus := []

end Sys2Proof.Machine
end

