-- ==== Sys2Proof/Machine/Flags.lean ====
section
/-! DEFINITION. Every flag computation: Z and N, the status byte views (spec/10_state.md R31 to R33), the adder
(spec/42_arithmetic.md R150) and the comparison (spec/45_compare.md R190). -/

namespace Sys2Proof.Machine

/-- `SetZN(v)` (R13). -/
def setZN (v : Byte) (s : State) : State := { s with z := v == 0, n := bit v 7 }

/-- The byte `128*N + 64*V + 32 + 16*b + 8*D + 4*I + 2*Z + C` (R31, R32). -/
def flagsByte (b : Bool) (s : State) : Byte :=
  BitVec.ofNat 8 (128 * s.n.toNat + 64 * s.v.toNat + 32 + 16 * b.toNat + 8 * s.d.toNat + 4 * s.i.toNat
    + 2 * s.z.toNat + s.c.toNat)

/-- The inspection view of P: bit 5 reads 1, bit 4 reads 0 (R31). -/
def statusByte (s : State) : Byte := flagsByte false s

/-- `PushedP(b)`: what PHP and BRK (`b` = 1) and interrupt entry (`b` = 0) push (R32). -/
def pushedP (b : Bool) (s : State) : Byte := flagsByte b s

/-- `SetP(v)`: the six flags from a pulled byte; bits 4 and 5 are ignored (R33). -/
def setP (p : Byte) (s : State) : State :=
  { s with c := bit p 0, z := bit p 1, i := bit p 2, d := bit p 3, v := bit p 6, n := bit p 7 }

/-- What the adder yields: the byte, the carry out and the signed overflow (R150). -/
structure AdderResult where
  r    : Byte
  cout : Bool
  ovf  : Bool
  deriving DecidableEq, Repr

/-- `AddWithCarry(a, m, cin)`, the one adder of the ALU (R150): an exact sum, narrowed at the end. -/
def addWithCarry (a m : Byte) (cin : Bool) : AdderResult :=
  let sum := a.toNat + m.toNat + cin.toNat
  let r := BitVec.ofNat 8 sum
  ⟨r, decide (sum > 255), ((a ^^^ r) &&& (m ^^^ r) &&& 0x80#8) != 0#8⟩

/-- `Compare(reg, m)`: the adder with the operand complemented and the carry-in 1; writes C, Z, N (R190). -/
def compareFlags (reg m : Byte) (s : State) : State :=
  let sum := addWithCarry reg (m ^^^ 0xFF#8) true
  setZN sum.r { s with c := sum.cout }

end Sys2Proof.Machine
end

