-- ==== Sys2Proof/Machine/Ops.lean ====
section
/-! DEFINITION. The named operations over memory and registers: the memory primitives and their abbreviations
(spec/00_scope.md R13), retiring an instruction (spec/49_step_fsm.md R284, R285), entering and leaving an
interrupt (spec/60_exceptions.md R306, spec/47_jump_call.md R225, R226) and the reset sequence (R304). -/

namespace Sys2Proof.Machine

/-- `MemRead(addr)`: one bus read (R13, R51). -/
def memRead (addr : Word) (s : State) : Byte × State :=
  let v := s.mem.read addr.toNat
  (v, { s with bus := s.bus ++ [.read addr v] })

/-- `MemWrite(addr, v)`: one bus write (R13, R51). -/
def memWrite (addr : Word) (v : Byte) (s : State) : State :=
  { s with mem := s.mem.write addr.toNat v, bus := s.bus ++ [.write addr v] }

/-- Two byte reads, the low byte first, joined as `{hi, lo}` (R13, R54). -/
def readPair (lowAddr highAddr : Word) (s : State) : Word × State :=
  let l := memRead lowAddr s
  let h := memRead highAddr l.2
  (word h.1 l.1, h.2)

/-- `Read16(a)` (R13). -/
def read16 (a : Word) (s : State) : Word × State := readPair a (a + 1) s

/-- `Read16ZP(z)`: both bytes from page 0 (R13). -/
def read16ZP (z : Byte) (s : State) : Word × State := readPair (zext16 z) (zext16 (z + 1)) s

/-- `Read16Bug(a)`: the high byte from the same page as the low byte (R13). -/
def read16Bug (a : Word) (s : State) : Word × State := readPair a (word (hi a) (lo a + 1)) s

/-- The address of the stack slot S designates (R21). -/
def stackAddr (sp : Byte) : Word := word params.stackPage sp

/-- `Push(v)`: write at the slot, then decrement S modulo 256 (R13, R263). -/
def push (v : Byte) (s : State) : State :=
  let s := memWrite (stackAddr s.sp) v s
  { s with sp := s.sp - 1 }

/-- `Pull()`: increment S modulo 256, then read at the slot (R13, R263). -/
def pull (s : State) : Byte × State :=
  memRead (stackAddr (s.sp + 1)) { s with sp := s.sp + 1 }

/-- Push a 16-bit value: high byte, then low byte (R220). -/
def push16 (w : Word) (s : State) : State := push (lo w) (push (hi w) s)

/-- Pull a 16-bit value: low byte, then high byte (R220). -/
def pull16 (s : State) : Word × State :=
  let l := pull s
  let h := pull l.2
  (word h.1 l.1, h.2)

/-- Charge a step's cycles: the step's output, added to CYC (R280, R284). -/
def charge (n : Nat) (s : State) : State := { s with cyc := s.cyc + n, cycles := n }

/-- The page penalty of a descriptor (R127). -/
def penalty (d : Descriptor) (crossed : Bool) : Nat := if d.penalty && crossed then 1 else 0

/-- Retire an instruction at a given PC: base cycles plus `extra`, and the `illegal_op` output (R283, R284, R285). -/
def retireAt (d : Descriptor) (extra : Nat) (pc : Word) (s : State) : State :=
  { charge (d.cycles + extra) s with pc := pc, illegalOp := d.mnemonic == .ILL }

/-- The shared entry sequence of NMI, IRQ and BRK (R306, R225): push the return address and the flags with the Break
marker `brk`, set I, and load PC from the vector. FSM passes through ServicingInterrupt (R281). -/
def enterInterrupt (ret : Word) (brk : Bool) (vec : Word) (s : State) : State :=
  let s := { s with fsm := .servicingInterrupt }
  let s := push16 ret s
  let s := push (pushedP brk s) s
  let s := { s with i := true }
  let target := read16 vec s
  { target.2 with pc := target.1, fsm := .running }

/-- The return from an interrupt (R226, R309): pull the flags, then the return address, and continue there. -/
def returnFromInterrupt (s : State) : Word × State :=
  let p := pull s
  pull16 (setP p.1 p.2)

/-- The two interrupts that are a step of their own (R306). -/
inductive InterruptKind where
  | nmi
  | irq
  deriving DecidableEq, Repr

/-- `InterruptEntry(kind)` (R306): the shared entry with the Break marker clear, clearing the latch of its kind. -/
def interruptEntry (kind : InterruptKind) (s : State) : State :=
  let entered := match kind with
    | .nmi => enterInterrupt s.pc false params.vecNmi { s with nmiPend := false }
    | .irq => enterInterrupt s.pc false params.vecIrq { s with irqPend := false }
  charge params.intEntryCycles entered

/-- `ResetSequence()` (R304). -/
def resetSequence (s : State) : State :=
  let target := read16 params.vecReset s
  charge params.resetCycles
    { target.2 with
      pc := target.1, sp := params.sReset, i := true, nmiPend := false, irqPend := false, fsm := .running }

end Sys2Proof.Machine
end

