-- ==== Sys2Proof/Machine/Operands.lean ====
section
/-! DEFINITION. The addressing-mode resolver (spec/40_addressing.md), operand access (R126), and the shapes an
instruction's execution takes over them (spec/49_step_fsm.md R283).

An instruction's operand bytes have been read with its opcode (Machine/Fetch.lean), so resolving makes only the
pointer reads of phase 2 of R58; `s.pc` is the address of the opcode byte throughout (R140, log 8). -/

namespace Sys2Proof.Machine

/-- The four forms of a resolved operand (R110). -/
inductive Effective where
  | none
  | acc
  | imm (v : Byte)
  | mem (ea : Word)
  deriving DecidableEq, Repr

/-- The resolver's result (R110). -/
structure Resolution where
  operand : Effective
  crossed : Bool
  deriving DecidableEq, Repr

/-- A base address plus an index or offset, with the page-cross test (R112). -/
def indexed (base offset : Word) : Resolution := ⟨.mem (base + offset), pageCrossed base (base + offset)⟩

/-- The resolver (R110, R113 to R125). It changes nothing of the state but the record of its bus reads. -/
def resolve (o : Operand) (s : State) : Resolution × State :=
  match o with
  | .implied => (⟨.none, false⟩, s)
  | .accumulator => (⟨.acc, false⟩, s)
  | .immediate v => (⟨.imm v, false⟩, s)
  | .zeroPage b => (⟨.mem (zext16 b), false⟩, s)
  | .zeroPageX b => (⟨.mem (zext16 (b + s.x)), false⟩, s)
  | .zeroPageY b => (⟨.mem (zext16 (b + s.y)), false⟩, s)
  | .absolute w => (⟨.mem w, false⟩, s)
  | .absoluteX w => (indexed w (zext16 s.x), s)
  | .absoluteY w => (indexed w (zext16 s.y), s)
  | .indirect w =>
    let target := read16Bug w s
    (⟨.mem target.1, false⟩, target.2)
  | .indexedIndirect b =>
    let pointer := read16ZP (b + s.x) s
    (⟨.mem pointer.1, false⟩, pointer.2)
  | .indirectIndexed b =>
    let base := read16ZP b s
    (indexed base.1 (zext16 s.y), base.2)
  | .relative b => (indexed (s.pc + 2) (sext16 b), s)

/-- `OperandRead(op)` (R126); never applied to `None`. -/
def operandRead (e : Effective) (s : State) : Option (Byte × State) :=
  match e with
  | .none => .none
  | .acc => some (s.a, s)
  | .imm v => some (v, s)
  | .mem ea => some (memRead ea s)

/-- `OperandWrite(op, v)` (R126); never applied to `Imm` or `None`. -/
def operandWrite (e : Effective) (v : Byte) (s : State) : Option State :=
  match e with
  | .none => .none
  | .acc => some { s with a := v }
  | .imm _ => .none
  | .mem ea => some (memWrite ea v s)

/-- The address after the instruction, `PCnext` (R140). -/
def pcNext (d : Descriptor) (s : State) : Word := s.pc + BitVec.ofNat 16 d.length

/-- Retire with the default PC and the page penalty (R140, R285). -/
def retire (d : Descriptor) (crossed : Bool) (s₀ s : State) : Result :=
  .next (retireAt d (penalty d crossed) (pcNext d s₀) s)

/-- An instruction with no operand (R113). -/
def runImplied (opc : Byte) (effect : State → State) (s : State) : Result :=
  retire (lookup opc) false s (effect s)

/-- An instruction that reads its operand. -/
def runRead (opc : Byte) (o : Operand) (effect : Byte → State → State) (s : State) : Result :=
  let r := resolve o s
  match operandRead r.1.operand r.2 with
  | some m => retire (lookup opc) r.1.crossed s (effect m.1 m.2)
  | none => .fault .operandMisuse

/-- An instruction that writes its operand and does not read it. -/
def runWrite (opc : Byte) (o : Operand) (value : Byte) (s : State) : Result :=
  let r := resolve o s
  match operandWrite r.1.operand value r.2 with
  | some s' => retire (lookup opc) r.1.crossed s s'
  | none => .fault .operandMisuse

/-- A read-modify-write instruction: one read, one write of `result m`, then the flags from `m` (R180). -/
def runModify (opc : Byte) (o : Operand) (result : Byte → State → Byte) (flags : Byte → State → State)
    (s : State) : Result :=
  let r := resolve o s
  match operandRead r.1.operand r.2 with
  | none => .fault .operandMisuse
  | some m =>
    match operandWrite r.1.operand (result m.1 m.2) (flags m.1 m.2) with
    | some s' => retire (lookup opc) r.1.crossed s s'
    | none => .fault .operandMisuse

/-- A control transfer to its operand's address, after `effect` (R220, R285). -/
def runJump (opc : Byte) (o : Operand) (effect : State → State) (s : State) : Result :=
  let r := resolve o s
  match r.1.operand with
  | .mem ea => .next (retireAt (lookup opc) 0 ea (effect r.2))
  | _ => .fault .operandMisuse

/-- A conditional branch (R200): one cycle more if taken, two if the target is not in the page of PC + 2. A branch to
itself (offset 0xFE) whose low PC byte is 0xFE or 0xFF therefore costs 4, as R125, R200 and R284 have it, where R290
says of a self-branch that it costs 3: DESIGN CHOICE, log 18. -/
def runBranch (opc : Byte) (o : Operand) (taken : Bool) (s : State) : Result :=
  let r := resolve o s
  match r.1.operand with
  | .mem target =>
    if taken then .next (retireAt (lookup opc) (if r.1.crossed then 2 else 1) target r.2)
    else .next (retireAt (lookup opc) 0 (pcNext (lookup opc) s) r.2)
  | _ => .fault .operandMisuse

end Sys2Proof.Machine
end

