-- ==== Sys2Proof/Machine/Arithmetic.lean ====
section
/-! DEFINITION. Addition, subtraction, increments and decrements (spec/42_arithmetic.md R150 to R160): one definition per row. -/

namespace Sys2Proof.Machine

/-- ADC: the adder on A, the operand and C (R151); D has no effect (R154). -/
def addToA (m : Byte) (s : State) : State :=
  let sum := addWithCarry s.a m s.c
  setZN sum.r { s with a := sum.r, c := sum.cout, v := sum.ovf }

/-- SBC: ADC with the operand's ones' complement (R152). -/
def subFromA (m : Byte) (s : State) : State := addToA (m ^^^ 0xFF#8) s

/-- INC: `(m + 1) mod 256` (R155). -/
def incResult (m : Byte) (_ : State) : Byte := m + 1

/-- INC: Z and N of the result (R155). -/
def incFlags (m : Byte) (s : State) : State := setZN (m + 1) s

/-- DEC: `(m - 1) mod 256` (R156). -/
def decResult (m : Byte) (_ : State) : Byte := m - 1

/-- DEC: Z and N of the result (R156). -/
def decFlags (m : Byte) (s : State) : State := setZN (m - 1) s

/-- INX, DEX: X and its Z and N (R157, R159). -/
def putX (r : Byte) (s : State) : State := setZN r { s with x := r }

/-- INY, DEY: Y and its Z and N (R158, R160). -/
def putY (r : Byte) (s : State) : State := setZN r { s with y := r }

/-- `ADC #$nn` (R151). -/
def execAdcImm (b : Byte) (s : State) : Result := runRead 0x69 (.immediate b) addToA s

/-- `ADC $nn` (R151). -/
def execAdcZp (b : Byte) (s : State) : Result := runRead 0x65 (.zeroPage b) addToA s

/-- `ADC $nn,X` (R151). -/
def execAdcZpx (b : Byte) (s : State) : Result := runRead 0x75 (.zeroPageX b) addToA s

/-- `ADC $nnnn` (R151). -/
def execAdcAbs (w : Word) (s : State) : Result := runRead 0x6D (.absolute w) addToA s

/-- `ADC $nnnn,X` (R151). -/
def execAdcAbx (w : Word) (s : State) : Result := runRead 0x7D (.absoluteX w) addToA s

/-- `ADC $nnnn,Y` (R151). -/
def execAdcAby (w : Word) (s : State) : Result := runRead 0x79 (.absoluteY w) addToA s

/-- `ADC ($nn,X)` (R151). -/
def execAdcIzx (b : Byte) (s : State) : Result := runRead 0x61 (.indexedIndirect b) addToA s

/-- `ADC ($nn),Y` (R151). -/
def execAdcIzy (b : Byte) (s : State) : Result := runRead 0x71 (.indirectIndexed b) addToA s

/-- `SBC #$nn` (R152). -/
def execSbcImm (b : Byte) (s : State) : Result := runRead 0xE9 (.immediate b) subFromA s

/-- `SBC $nn` (R152). -/
def execSbcZp (b : Byte) (s : State) : Result := runRead 0xE5 (.zeroPage b) subFromA s

/-- `SBC $nn,X` (R152). -/
def execSbcZpx (b : Byte) (s : State) : Result := runRead 0xF5 (.zeroPageX b) subFromA s

/-- `SBC $nnnn` (R152). -/
def execSbcAbs (w : Word) (s : State) : Result := runRead 0xED (.absolute w) subFromA s

/-- `SBC $nnnn,X` (R152). -/
def execSbcAbx (w : Word) (s : State) : Result := runRead 0xFD (.absoluteX w) subFromA s

/-- `SBC $nnnn,Y` (R152). -/
def execSbcAby (w : Word) (s : State) : Result := runRead 0xF9 (.absoluteY w) subFromA s

/-- `SBC ($nn,X)` (R152). -/
def execSbcIzx (b : Byte) (s : State) : Result := runRead 0xE1 (.indexedIndirect b) subFromA s

/-- `SBC ($nn),Y` (R152). -/
def execSbcIzy (b : Byte) (s : State) : Result := runRead 0xF1 (.indirectIndexed b) subFromA s

/-- `INC $nn` (R155). -/
def execIncZp (b : Byte) (s : State) : Result := runModify 0xE6 (.zeroPage b) incResult incFlags s

/-- `INC $nn,X` (R155). -/
def execIncZpx (b : Byte) (s : State) : Result := runModify 0xF6 (.zeroPageX b) incResult incFlags s

/-- `INC $nnnn` (R155). -/
def execIncAbs (w : Word) (s : State) : Result := runModify 0xEE (.absolute w) incResult incFlags s

/-- `INC $nnnn,X` (R155). -/
def execIncAbx (w : Word) (s : State) : Result := runModify 0xFE (.absoluteX w) incResult incFlags s

/-- `DEC $nn` (R156). -/
def execDecZp (b : Byte) (s : State) : Result := runModify 0xC6 (.zeroPage b) decResult decFlags s

/-- `DEC $nn,X` (R156). -/
def execDecZpx (b : Byte) (s : State) : Result := runModify 0xD6 (.zeroPageX b) decResult decFlags s

/-- `DEC $nnnn` (R156). -/
def execDecAbs (w : Word) (s : State) : Result := runModify 0xCE (.absolute w) decResult decFlags s

/-- `DEC $nnnn,X` (R156). -/
def execDecAbx (w : Word) (s : State) : Result := runModify 0xDE (.absoluteX w) decResult decFlags s

/-- `INX` (R157). -/
def execInx (s : State) : Result := runImplied 0xE8 (putX (s.x + 1)) s

/-- `INY` (R158). -/
def execIny (s : State) : Result := runImplied 0xC8 (putY (s.y + 1)) s

/-- `DEX` (R159). -/
def execDex (s : State) : Result := runImplied 0xCA (putX (s.x - 1)) s

/-- `DEY` (R160). -/
def execDey (s : State) : Result := runImplied 0x88 (putY (s.y - 1)) s

end Sys2Proof.Machine
end

