-- ==== Sys2Proof/Machine/Branch.lean ====
section
/-! DEFINITION. The eight conditional branches (spec/46_branch.md R200 to R208): one definition per row. -/

namespace Sys2Proof.Machine

/-- `BCC label` (R201). -/
def execBcc (b : Byte) (s : State) : Result := runBranch 0x90 (.relative b) (!s.c) s

/-- `BCS label` (R202). -/
def execBcs (b : Byte) (s : State) : Result := runBranch 0xB0 (.relative b) s.c s

/-- `BEQ label` (R203). -/
def execBeq (b : Byte) (s : State) : Result := runBranch 0xF0 (.relative b) s.z s

/-- `BNE label` (R204). -/
def execBne (b : Byte) (s : State) : Result := runBranch 0xD0 (.relative b) (!s.z) s

/-- `BMI label` (R205). -/
def execBmi (b : Byte) (s : State) : Result := runBranch 0x30 (.relative b) s.n s

/-- `BPL label` (R206). -/
def execBpl (b : Byte) (s : State) : Result := runBranch 0x10 (.relative b) (!s.n) s

/-- `BVC label` (R207). -/
def execBvc (b : Byte) (s : State) : Result := runBranch 0x50 (.relative b) (!s.v) s

/-- `BVS label` (R208). -/
def execBvs (b : Byte) (s : State) : Result := runBranch 0x70 (.relative b) s.v s

end Sys2Proof.Machine
end

