-- ==== Sys2Proof/Machine/Compare.lean ====
section
/-! DEFINITION. Compares (spec/45_compare.md R190 to R193): one definition per row. -/

namespace Sys2Proof.Machine

/-- CMP: `Compare(A, m)` (R191). -/
def compareA (m : Byte) (s : State) : State := compareFlags s.a m s

/-- CPX: `Compare(X, m)` (R192). -/
def compareX (m : Byte) (s : State) : State := compareFlags s.x m s

/-- CPY: `Compare(Y, m)` (R193). -/
def compareY (m : Byte) (s : State) : State := compareFlags s.y m s

/-- `CMP #$nn` (R191). -/
def execCmpImm (b : Byte) (s : State) : Result := runRead 0xC9 (.immediate b) compareA s

/-- `CMP $nn` (R191). -/
def execCmpZp (b : Byte) (s : State) : Result := runRead 0xC5 (.zeroPage b) compareA s

/-- `CMP $nn,X` (R191). -/
def execCmpZpx (b : Byte) (s : State) : Result := runRead 0xD5 (.zeroPageX b) compareA s

/-- `CMP $nnnn` (R191). -/
def execCmpAbs (w : Word) (s : State) : Result := runRead 0xCD (.absolute w) compareA s

/-- `CMP $nnnn,X` (R191). -/
def execCmpAbx (w : Word) (s : State) : Result := runRead 0xDD (.absoluteX w) compareA s

/-- `CMP $nnnn,Y` (R191). -/
def execCmpAby (w : Word) (s : State) : Result := runRead 0xD9 (.absoluteY w) compareA s

/-- `CMP ($nn,X)` (R191). -/
def execCmpIzx (b : Byte) (s : State) : Result := runRead 0xC1 (.indexedIndirect b) compareA s

/-- `CMP ($nn),Y` (R191). -/
def execCmpIzy (b : Byte) (s : State) : Result := runRead 0xD1 (.indirectIndexed b) compareA s

/-- `CPX #$nn` (R192). -/
def execCpxImm (b : Byte) (s : State) : Result := runRead 0xE0 (.immediate b) compareX s

/-- `CPX $nn` (R192). -/
def execCpxZp (b : Byte) (s : State) : Result := runRead 0xE4 (.zeroPage b) compareX s

/-- `CPX $nnnn` (R192). -/
def execCpxAbs (w : Word) (s : State) : Result := runRead 0xEC (.absolute w) compareX s

/-- `CPY #$nn` (R193). -/
def execCpyImm (b : Byte) (s : State) : Result := runRead 0xC0 (.immediate b) compareY s

/-- `CPY $nn` (R193). -/
def execCpyZp (b : Byte) (s : State) : Result := runRead 0xC4 (.zeroPage b) compareY s

/-- `CPY $nnnn` (R193). -/
def execCpyAbs (w : Word) (s : State) : Result := runRead 0xCC (.absolute w) compareY s

end Sys2Proof.Machine
end

