-- ==== Sys2Proof/Machine/JumpCall.lean ====
section
/-! DEFINITION. Jumps, calls, returns and the software interrupt (spec/47_jump_call.md R220 to R226): one definition per row. -/

namespace Sys2Proof.Machine

/-- `JMP $nnnn` (R221). -/
def execJmpAbs (w : Word) (s : State) : Result := runJump 0x4C (.absolute w) id s

/-- `JMP ($nnnn)` (R222). -/
def execJmpInd (w : Word) (s : State) : Result := runJump 0x6C (.indirect w) id s

/-- `JSR $nnnn` (R223). -/
def execJsr (w : Word) (s : State) : Result := runJump 0x20 (.absolute w) (push16 (s.pc + 2)) s

/-- `RTS` (R224). -/
def execRts (s : State) : Result :=
  let r := pull16 s
  .next (retireAt (lookup 0x60) 0 (r.1 + 1) r.2)

/-- `BRK` (R225). -/
def execBrk (s : State) : Result :=
  let t := enterInterrupt (s.pc + 2) true params.vecIrq s
  .next (retireAt (lookup 0x00) 0 t.pc t)

/-- `RTI` (R226). -/
def execRti (s : State) : Result :=
  let r := returnFromInterrupt s
  .next (retireAt (lookup 0x40) 0 r.1 r.2)

end Sys2Proof.Machine
end

