-- ==== Sys2Proof/Machine/LoadStore.lean ====
section
/-! DEFINITION. Loads and stores (spec/41_load_store.md R141 to R146): one definition per row. -/

namespace Sys2Proof.Machine

/-- LDA: `A <- m; SetZN(m)` (R141). -/
def loadA (m : Byte) (s : State) : State := setZN m { s with a := m }

/-- LDX: `X <- m; SetZN(m)` (R142). -/
def loadX (m : Byte) (s : State) : State := setZN m { s with x := m }

/-- LDY: `Y <- m; SetZN(m)` (R143). -/
def loadY (m : Byte) (s : State) : State := setZN m { s with y := m }

/-- `LDA #$nn` (R141). -/
def execLdaImm (b : Byte) (s : State) : Result := runRead 0xA9 (.immediate b) loadA s

/-- `LDA $nn` (R141). -/
def execLdaZp (b : Byte) (s : State) : Result := runRead 0xA5 (.zeroPage b) loadA s

/-- `LDA $nn,X` (R141). -/
def execLdaZpx (b : Byte) (s : State) : Result := runRead 0xB5 (.zeroPageX b) loadA s

/-- `LDA $nnnn` (R141). -/
def execLdaAbs (w : Word) (s : State) : Result := runRead 0xAD (.absolute w) loadA s

/-- `LDA $nnnn,X` (R141). -/
def execLdaAbx (w : Word) (s : State) : Result := runRead 0xBD (.absoluteX w) loadA s

/-- `LDA $nnnn,Y` (R141). -/
def execLdaAby (w : Word) (s : State) : Result := runRead 0xB9 (.absoluteY w) loadA s

/-- `LDA ($nn,X)` (R141). -/
def execLdaIzx (b : Byte) (s : State) : Result := runRead 0xA1 (.indexedIndirect b) loadA s

/-- `LDA ($nn),Y` (R141). -/
def execLdaIzy (b : Byte) (s : State) : Result := runRead 0xB1 (.indirectIndexed b) loadA s

/-- `LDX #$nn` (R142). -/
def execLdxImm (b : Byte) (s : State) : Result := runRead 0xA2 (.immediate b) loadX s

/-- `LDX $nn` (R142). -/
def execLdxZp (b : Byte) (s : State) : Result := runRead 0xA6 (.zeroPage b) loadX s

/-- `LDX $nn,Y` (R142). -/
def execLdxZpy (b : Byte) (s : State) : Result := runRead 0xB6 (.zeroPageY b) loadX s

/-- `LDX $nnnn` (R142). -/
def execLdxAbs (w : Word) (s : State) : Result := runRead 0xAE (.absolute w) loadX s

/-- `LDX $nnnn,Y` (R142). -/
def execLdxAby (w : Word) (s : State) : Result := runRead 0xBE (.absoluteY w) loadX s

/-- `LDY #$nn` (R143). -/
def execLdyImm (b : Byte) (s : State) : Result := runRead 0xA0 (.immediate b) loadY s

/-- `LDY $nn` (R143). -/
def execLdyZp (b : Byte) (s : State) : Result := runRead 0xA4 (.zeroPage b) loadY s

/-- `LDY $nn,X` (R143). -/
def execLdyZpx (b : Byte) (s : State) : Result := runRead 0xB4 (.zeroPageX b) loadY s

/-- `LDY $nnnn` (R143). -/
def execLdyAbs (w : Word) (s : State) : Result := runRead 0xAC (.absolute w) loadY s

/-- `LDY $nnnn,X` (R143). -/
def execLdyAbx (w : Word) (s : State) : Result := runRead 0xBC (.absoluteX w) loadY s

/-- `STA $nn` (R144). -/
def execStaZp (b : Byte) (s : State) : Result := runWrite 0x85 (.zeroPage b) s.a s

/-- `STA $nn,X` (R144). -/
def execStaZpx (b : Byte) (s : State) : Result := runWrite 0x95 (.zeroPageX b) s.a s

/-- `STA $nnnn` (R144). -/
def execStaAbs (w : Word) (s : State) : Result := runWrite 0x8D (.absolute w) s.a s

/-- `STA $nnnn,X` (R144). -/
def execStaAbx (w : Word) (s : State) : Result := runWrite 0x9D (.absoluteX w) s.a s

/-- `STA $nnnn,Y` (R144). -/
def execStaAby (w : Word) (s : State) : Result := runWrite 0x99 (.absoluteY w) s.a s

/-- `STA ($nn,X)` (R144). -/
def execStaIzx (b : Byte) (s : State) : Result := runWrite 0x81 (.indexedIndirect b) s.a s

/-- `STA ($nn),Y` (R144). -/
def execStaIzy (b : Byte) (s : State) : Result := runWrite 0x91 (.indirectIndexed b) s.a s

/-- `STX $nn` (R145). -/
def execStxZp (b : Byte) (s : State) : Result := runWrite 0x86 (.zeroPage b) s.x s

/-- `STX $nn,Y` (R145). -/
def execStxZpy (b : Byte) (s : State) : Result := runWrite 0x96 (.zeroPageY b) s.x s

/-- `STX $nnnn` (R145). -/
def execStxAbs (w : Word) (s : State) : Result := runWrite 0x8E (.absolute w) s.x s

/-- `STY $nn` (R146). -/
def execStyZp (b : Byte) (s : State) : Result := runWrite 0x84 (.zeroPage b) s.y s

/-- `STY $nn,X` (R146). -/
def execStyZpx (b : Byte) (s : State) : Result := runWrite 0x94 (.zeroPageX b) s.y s

/-- `STY $nnnn` (R146). -/
def execStyAbs (w : Word) (s : State) : Result := runWrite 0x8C (.absolute w) s.y s

end Sys2Proof.Machine
end

