-- ==== Sys2Proof/Machine/Logical.lean ====
section
/-! DEFINITION. Bitwise operations and BIT (spec/43_logical.md R170 to R174): one definition per row. -/

namespace Sys2Proof.Machine

/-- The shared shape of the bitwise instructions: `A <- r; SetZN(r)` (R170). -/
def logicResult (r : Byte) (s : State) : State := setZN r { s with a := r }

/-- AND (R171). -/
def andA (m : Byte) (s : State) : State := logicResult (s.a &&& m) s

/-- ORA (R172). -/
def oraA (m : Byte) (s : State) : State := logicResult (s.a ||| m) s

/-- EOR (R173). -/
def eorA (m : Byte) (s : State) : State := logicResult (s.a ^^^ m) s

/-- BIT: Z from the and, N and V from bits 7 and 6 of the operand (R174). -/
def bitTest (m : Byte) (s : State) : State :=
  { s with z := (s.a &&& m) == 0, n := bit m 7, v := bit m 6 }

/-- `AND #$nn` (R171). -/
def execAndImm (b : Byte) (s : State) : Result := runRead 0x29 (.immediate b) andA s

/-- `AND $nn` (R171). -/
def execAndZp (b : Byte) (s : State) : Result := runRead 0x25 (.zeroPage b) andA s

/-- `AND $nn,X` (R171). -/
def execAndZpx (b : Byte) (s : State) : Result := runRead 0x35 (.zeroPageX b) andA s

/-- `AND $nnnn` (R171). -/
def execAndAbs (w : Word) (s : State) : Result := runRead 0x2D (.absolute w) andA s

/-- `AND $nnnn,X` (R171). -/
def execAndAbx (w : Word) (s : State) : Result := runRead 0x3D (.absoluteX w) andA s

/-- `AND $nnnn,Y` (R171). -/
def execAndAby (w : Word) (s : State) : Result := runRead 0x39 (.absoluteY w) andA s

/-- `AND ($nn,X)` (R171). -/
def execAndIzx (b : Byte) (s : State) : Result := runRead 0x21 (.indexedIndirect b) andA s

/-- `AND ($nn),Y` (R171). -/
def execAndIzy (b : Byte) (s : State) : Result := runRead 0x31 (.indirectIndexed b) andA s

/-- `ORA #$nn` (R172). -/
def execOraImm (b : Byte) (s : State) : Result := runRead 0x09 (.immediate b) oraA s

/-- `ORA $nn` (R172). -/
def execOraZp (b : Byte) (s : State) : Result := runRead 0x05 (.zeroPage b) oraA s

/-- `ORA $nn,X` (R172). -/
def execOraZpx (b : Byte) (s : State) : Result := runRead 0x15 (.zeroPageX b) oraA s

/-- `ORA $nnnn` (R172). -/
def execOraAbs (w : Word) (s : State) : Result := runRead 0x0D (.absolute w) oraA s

/-- `ORA $nnnn,X` (R172). -/
def execOraAbx (w : Word) (s : State) : Result := runRead 0x1D (.absoluteX w) oraA s

/-- `ORA $nnnn,Y` (R172). -/
def execOraAby (w : Word) (s : State) : Result := runRead 0x19 (.absoluteY w) oraA s

/-- `ORA ($nn,X)` (R172). -/
def execOraIzx (b : Byte) (s : State) : Result := runRead 0x01 (.indexedIndirect b) oraA s

/-- `ORA ($nn),Y` (R172). -/
def execOraIzy (b : Byte) (s : State) : Result := runRead 0x11 (.indirectIndexed b) oraA s

/-- `EOR #$nn` (R173). -/
def execEorImm (b : Byte) (s : State) : Result := runRead 0x49 (.immediate b) eorA s

/-- `EOR $nn` (R173). -/
def execEorZp (b : Byte) (s : State) : Result := runRead 0x45 (.zeroPage b) eorA s

/-- `EOR $nn,X` (R173). -/
def execEorZpx (b : Byte) (s : State) : Result := runRead 0x55 (.zeroPageX b) eorA s

/-- `EOR $nnnn` (R173). -/
def execEorAbs (w : Word) (s : State) : Result := runRead 0x4D (.absolute w) eorA s

/-- `EOR $nnnn,X` (R173). -/
def execEorAbx (w : Word) (s : State) : Result := runRead 0x5D (.absoluteX w) eorA s

/-- `EOR $nnnn,Y` (R173). -/
def execEorAby (w : Word) (s : State) : Result := runRead 0x59 (.absoluteY w) eorA s

/-- `EOR ($nn,X)` (R173). -/
def execEorIzx (b : Byte) (s : State) : Result := runRead 0x41 (.indexedIndirect b) eorA s

/-- `EOR ($nn),Y` (R173). -/
def execEorIzy (b : Byte) (s : State) : Result := runRead 0x51 (.indirectIndexed b) eorA s

/-- `BIT $nn` (R174). -/
def execBitZp (b : Byte) (s : State) : Result := runRead 0x24 (.zeroPage b) bitTest s

/-- `BIT $nnnn` (R174). -/
def execBitAbs (w : Word) (s : State) : Result := runRead 0x2C (.absolute w) bitTest s

end Sys2Proof.Machine
end

