-- ==== Sys2Proof/Machine/ShiftRotate.lean ====
section
/-! DEFINITION. Shifts and rotates by one bit (spec/44_shift_rotate.md R180 to R184): one definition per row. -/

namespace Sys2Proof.Machine

/-- ASL: bit 0 becomes 0 (R181). -/
def aslResult (m : Byte) (_ : State) : Byte := m <<< 1

/-- ASL: C is bit 7 of the operand; Z and N of the result (R181). -/
def aslFlags (m : Byte) (s : State) : State := setZN (aslResult m s) { s with c := bit m 7 }

/-- LSR: bit 7 becomes 0 (R182). -/
def lsrResult (m : Byte) (_ : State) : Byte := m >>> 1

/-- LSR: C is bit 0 of the operand; Z and N of the result (R182). -/
def lsrFlags (m : Byte) (s : State) : State := setZN (lsrResult m s) { s with c := bit m 0 }

/-- ROL: the old carry enters bit 0 (R183). -/
def rolResult (m : Byte) (s : State) : Byte := (m <<< 1) ||| (if s.c then 0x01#8 else 0x00#8)

/-- ROL: C is bit 7 of the operand; Z and N of the result (R183). -/
def rolFlags (m : Byte) (s : State) : State := setZN (rolResult m s) { s with c := bit m 7 }

/-- ROR: the old carry enters bit 7 (R184). -/
def rorResult (m : Byte) (s : State) : Byte := (m >>> 1) ||| (if s.c then 0x80#8 else 0x00#8)

/-- ROR: C is bit 0 of the operand; Z and N of the result (R184). -/
def rorFlags (m : Byte) (s : State) : State := setZN (rorResult m s) { s with c := bit m 0 }

/-- `ASL A` (R181). -/
def execAslAcc (s : State) : Result := runModify 0x0A .accumulator aslResult aslFlags s

/-- `ASL $nn` (R181). -/
def execAslZp (b : Byte) (s : State) : Result := runModify 0x06 (.zeroPage b) aslResult aslFlags s

/-- `ASL $nn,X` (R181). -/
def execAslZpx (b : Byte) (s : State) : Result := runModify 0x16 (.zeroPageX b) aslResult aslFlags s

/-- `ASL $nnnn` (R181). -/
def execAslAbs (w : Word) (s : State) : Result := runModify 0x0E (.absolute w) aslResult aslFlags s

/-- `ASL $nnnn,X` (R181). -/
def execAslAbx (w : Word) (s : State) : Result := runModify 0x1E (.absoluteX w) aslResult aslFlags s

/-- `LSR A` (R182). -/
def execLsrAcc (s : State) : Result := runModify 0x4A .accumulator lsrResult lsrFlags s

/-- `LSR $nn` (R182). -/
def execLsrZp (b : Byte) (s : State) : Result := runModify 0x46 (.zeroPage b) lsrResult lsrFlags s

/-- `LSR $nn,X` (R182). -/
def execLsrZpx (b : Byte) (s : State) : Result := runModify 0x56 (.zeroPageX b) lsrResult lsrFlags s

/-- `LSR $nnnn` (R182). -/
def execLsrAbs (w : Word) (s : State) : Result := runModify 0x4E (.absolute w) lsrResult lsrFlags s

/-- `LSR $nnnn,X` (R182). -/
def execLsrAbx (w : Word) (s : State) : Result := runModify 0x5E (.absoluteX w) lsrResult lsrFlags s

/-- `ROL A` (R183). -/
def execRolAcc (s : State) : Result := runModify 0x2A .accumulator rolResult rolFlags s

/-- `ROL $nn` (R183). -/
def execRolZp (b : Byte) (s : State) : Result := runModify 0x26 (.zeroPage b) rolResult rolFlags s

/-- `ROL $nn,X` (R183). -/
def execRolZpx (b : Byte) (s : State) : Result := runModify 0x36 (.zeroPageX b) rolResult rolFlags s

/-- `ROL $nnnn` (R183). -/
def execRolAbs (w : Word) (s : State) : Result := runModify 0x2E (.absolute w) rolResult rolFlags s

/-- `ROL $nnnn,X` (R183). -/
def execRolAbx (w : Word) (s : State) : Result := runModify 0x3E (.absoluteX w) rolResult rolFlags s

/-- `ROR A` (R184). -/
def execRorAcc (s : State) : Result := runModify 0x6A .accumulator rorResult rorFlags s

/-- `ROR $nn` (R184). -/
def execRorZp (b : Byte) (s : State) : Result := runModify 0x66 (.zeroPage b) rorResult rorFlags s

/-- `ROR $nn,X` (R184). -/
def execRorZpx (b : Byte) (s : State) : Result := runModify 0x76 (.zeroPageX b) rorResult rorFlags s

/-- `ROR $nnnn` (R184). -/
def execRorAbs (w : Word) (s : State) : Result := runModify 0x6E (.absolute w) rorResult rorFlags s

/-- `ROR $nnnn,X` (R184). -/
def execRorAbx (w : Word) (s : State) : Result := runModify 0x7E (.absoluteX w) rorResult rorFlags s

end Sys2Proof.Machine
end

