-- ==== Sys2Proof/Machine/StackTransferFlag.lean ====
section
/-! DEFINITION. Stack, transfers, flags, NOP and the illegal opcodes (spec/48_stack_transfer_flag.md R240 to R263): one definition per row. -/

namespace Sys2Proof.Machine

/-- PLA: `A <- Pull()` and its Z and N (R242). -/
def pullA (s : State) : State :=
  let p := pull s
  setZN p.1 { p.2 with a := p.1 }

/-- PLP: all six flags from the pulled byte (R244). -/
def pullP (s : State) : State :=
  let p := pull s
  setP p.1 p.2

/-- `PHA` (R241). -/
def execPha (s : State) : Result := runImplied 0x48 (push s.a) s

/-- `PLA` (R242). -/
def execPla (s : State) : Result := runImplied 0x68 pullA s

/-- `PHP` (R243). -/
def execPhp (s : State) : Result := runImplied 0x08 (push (pushedP true s)) s

/-- `PLP` (R244). -/
def execPlp (s : State) : Result := runImplied 0x28 pullP s

/-- `TSX` (R245). -/
def execTsx (s : State) : Result := runImplied 0xBA (fun t => setZN s.sp { t with x := s.sp }) s

/-- `TXS` (R246). -/
def execTxs (s : State) : Result := runImplied 0x9A (fun t => { t with sp := s.x }) s

/-- `TAX` (R247). -/
def execTax (s : State) : Result := runImplied 0xAA (fun t => setZN s.a { t with x := s.a }) s

/-- `TAY` (R248). -/
def execTay (s : State) : Result := runImplied 0xA8 (fun t => setZN s.a { t with y := s.a }) s

/-- `TXA` (R249). -/
def execTxa (s : State) : Result := runImplied 0x8A (fun t => setZN s.x { t with a := s.x }) s

/-- `TYA` (R250). -/
def execTya (s : State) : Result := runImplied 0x98 (fun t => setZN s.y { t with a := s.y }) s

/-- `CLC` (R251). -/
def execClc (s : State) : Result := runImplied 0x18 (fun t => { t with c := false }) s

/-- `SEC` (R252). -/
def execSec (s : State) : Result := runImplied 0x38 (fun t => { t with c := true }) s

/-- `CLI` (R253). -/
def execCli (s : State) : Result := runImplied 0x58 (fun t => { t with i := false }) s

/-- `SEI` (R254). -/
def execSei (s : State) : Result := runImplied 0x78 (fun t => { t with i := true }) s

/-- `CLD` (R255). -/
def execCld (s : State) : Result := runImplied 0xD8 (fun t => { t with d := false }) s

/-- `SED` (R256). -/
def execSed (s : State) : Result := runImplied 0xF8 (fun t => { t with d := true }) s

/-- `CLV` (R257). -/
def execClv (s : State) : Result := runImplied 0xB8 (fun t => { t with v := false }) s

/-- `NOP` (R258). -/
def execNop (s : State) : Result := runImplied 0xEA id s

/-- An undocumented opcode byte, under the policy of `params` (R92, R262): nothing but PC, the cycles and
`illegal_op` changes. -/
def execIll (opcode : Byte) (s : State) : Result :=
  retire (illegalRow opcode params.illegalPolicy).descriptor false s s

end Sys2Proof.Machine
end

