-- ==== Sys2Proof/Machine/Fetch.lean ====
section
/-! DEFINITION. Fetching an instruction: the opcode read of phase 1 and the operand-byte reads of phase 2 of
spec/20_memory.md R58, in that order (R81, R86); and laying a table word out where the fetch reads. -/

namespace Sys2Proof.Machine

/-- Read the opcode at PC, look its row up, read the operand bytes its format has, and make the instruction.
PC itself does not move (R140). -/
def fetch (s : State) : Instr × State :=
  let op := memRead s.pc s
  match (lookupRow op.1).make with
  | .f1 i => (i, op.2)
  | .f2 make =>
    let b := memRead (s.pc + 1) op.2
    (make b.1, b.2)
  | .f3 make =>
    let w := readPair (s.pc + 1) (s.pc + 2) op.2
    (make w.1, w.2)

/-- Bytes stored at ascending addresses from `addr`, modulo 65536, without a bus access of the core. -/
def placeBytes (bytes : List Byte) (addr : Word) (m : Memory) : Memory :=
  match bytes with
  | [] => m
  | b :: rest => placeBytes rest (addr + 1) (m.write addr.toNat b)

/-- The state whose next step fetches and runs the instruction of a table word: its bytes stand at PC, FSM is
Running, and no interrupt that the step would take first is pending (R280, log 13). -/
def placeTableWord (s : State) (nbits w : Nat) : State :=
  { s with
    mem := placeBytes (tableBytes nbits w) s.pc s.mem
    fsm := .running
    nmiPend := false
    irqPend := s.irqPend && s.i }

end Sys2Proof.Machine
end

