-- ==== Sys2Proof/Machine/Control.lean ====
section
/-! DEFINITION. The control state machine (spec/49_step_fsm.md R280 to R287): what one step does. -/

namespace Sys2Proof.Machine

/-- The outputs of a step before it has done anything (R280): no cycles, no illegal opcode, no bus access. -/
def clearOutputs (s : State) : State := { s with cycles := 0, illegalOp := false, bus := [] }

/-- `ExecuteOne()` (R283): fetch and decode, then resolve, execute and retire. -/
def executeOne (s : State) : Result :=
  let f := fetch s
  exec f.1 f.2

/-- A step in state Running: NMI, else an unmasked IRQ, else one instruction (R280, R303). -/
def runningStep (s : State) : Result :=
  if s.nmiPend then .next (interruptEntry .nmi s)
  else if s.irqPend && !s.i then .next (interruptEntry .irq s)
  else executeOne s

/-- `Step()` (R280). -/
def controlStep (s : State) : Result :=
  let s := clearOutputs s
  match s.fsm with
  | .reset => .next (resetSequence s)
  | .halted => .next s
  | .running => runningStep s
  | .servicingInterrupt => .fault .servicingAtBoundary

end Sys2Proof.Machine
end

