-- ==== Sys2Proof/Machine/Step.lean ====
section
/-! DEFINITION. One step of the machine, and placing an instruction where the step fetches it. Both call
definitions of Machine/Control.lean and Machine/Fetch.lean. -/

namespace Sys2Proof.Machine

/-- One invocation of the core's step operation (R15, R280). -/
def step (s : State) : Host.Outcome State Fault Refusal := controlStep s

/-- `s` with the instruction of a table word placed so that the very next step runs it (log 13). -/
def State.withFetchWord (s : State) (nbits w : Nat) : State := placeTableWord s nbits w

end Sys2Proof.Machine
end

