-- ==== Sys2Proof/Machine/HostOps.lean ====
section
/-! DEFINITION. What the host and the bus's other actors may do between two steps (spec/49_step_fsm.md R289). -/

namespace Sys2Proof.Machine

/-- The operations of R289 that change state, and the bus-side edit of one byte. -/
inductive HostOp where
  | reset
  | injectNmi
  | injectIrq
  | halt
  | editMemory (addr : Word) (value : Byte)
  deriving DecidableEq, Repr

/-- The effect of an operation on the state (R289): each writes the one thing R289 names. -/
def applyHostOp (op : HostOp) (s : State) : State :=
  match op with
  | .reset => { s with fsm := .reset }
  | .injectNmi => { s with nmiPend := true }
  | .injectIrq => { s with irqPend := true }
  | .halt => { s with fsm := .halted }
  | .editMemory addr value => { s with mem := s.mem.write addr.toNat value }

/-- What the inspection port shows (R17, R289). -/
structure Inspection where
  a : Byte
  x : Byte
  y : Byte
  s : Byte
  pc : Word
  c : Bool
  z : Bool
  i : Bool
  d : Bool
  v : Bool
  n : Bool
  p : Byte
  cyc : Nat
  fsm : Fsm
  deriving DecidableEq, Repr

/-- `Inspect`: it changes nothing (R289). -/
def inspect (s : State) : Inspection :=
  ⟨s.a, s.x, s.y, s.sp, s.pc, s.c, s.z, s.i, s.d, s.v, s.n, statusByte s, s.cyc, s.fsm⟩

end Sys2Proof.Machine
end

