-- ==== Sys2Proof/Safety.lean ====
section
/-! DEFINITION. What counts as a safe run: the invariant of states at an instruction boundary, and the states that
runs of steps and host operations reach. -/

namespace Sys2Proof.Safety

open Sys2Proof.Machine

/-- What holds at every instruction boundary: memory is in canonical form, and FSM is not the transient
ServicingInterrupt (R37, R281). -/
structure Inv (s : State) : Prop where
  memWf : s.mem.wf
  boundary : s.fsm ≠ .servicingInterrupt

/-- The states a run reaches from power-up: by a step, or by an operation of the host or of another bus actor
between steps (R289, R290). -/
inductive Reachable : State → Prop where
  | powerUp : Reachable State.reset
  | step {s t : State} : Reachable s → step s = .next t → Reachable t
  | host {s : State} (op : HostOp) : Reachable s → Reachable (applyHostOp op s)

/-- A step goes on: it neither faults nor is refused. -/
def Proceeds (s : State) : Prop := ∃ t, step s = .next t

/-- The premise R93 lets a claim take: the step that ended in `s` executed no illegal opcode. -/
def NoIllegalOpcode (s : State) : Prop := s.illegalOp = false

end Sys2Proof.Safety
end

