-- ==== Sys2Proof/Certificates/Slice0/Obligations.lean ====
section
/-! DEFINITION. The statements about the model, from the numbered rules of spec/. -/

namespace Sys2Proof.Claims

open Sys2Proof Sys2Proof.Machine

/-! ### The words the statements are written in

They restate the rules in plain arithmetic on numbers, beside the model's own definitions. -/

/-- A state without the outputs of the last step and the record of its bus accesses (log 7). -/
def arch (s : State) : State := { s with cycles := 0, illegalOp := false, bus := [] }

/-- `i` run at `s` answers a next state which is `u` with CYC grown by `cost`, field by field, whose outputs are
`cycles = cost` and `illegal_op = 0`. With `u` written as an update of `s`, this says what `i` writes and that it
leaves everything else, all of memory included, as it was. -/
def Completes (i : Instr) (s u : State) (cost : Nat) : Prop :=
  ∃ t, exec i s = .next t ∧ arch t = arch { u with cyc := s.cyc + cost } ∧ t.cycles = cost ∧ t.illegalOp = false

/-- The mnemonic the opcode table gives a well-formed instruction. -/
abbrev Is (i : Instr) (m : Mnemonic) : Prop := i.WellFormed ∧ i.descriptor.mnemonic = m

/-- The opcode bytes of a mnemonic are exactly these, each with its mode and page-penalty eligibility: what the
Encoding line of an instruction's rule lists. -/
abbrev RowsOf (m : Mnemonic) (rows : List (Byte × Mode × Bool)) : Prop :=
  ∀ op : Byte, (if (lookup op).mnemonic = m then some ((lookup op).mode, (lookup op).penalty) else none) =
    rows.lookup op

/-- The base cycles of the 151 documented opcode bytes, from the table of R90. -/
def documentedCycles : List (Byte × Nat) :=
  [(0x00, 7), (0x01, 6), (0x05, 3), (0x06, 5), (0x08, 3), (0x09, 2), (0x0A, 2), (0x0D, 4), (0x0E, 6),
    (0x10, 2), (0x11, 5), (0x15, 4), (0x16, 6), (0x18, 2), (0x19, 4), (0x1D, 4), (0x1E, 7), (0x20, 6),
    (0x21, 6), (0x24, 3), (0x25, 3), (0x26, 5), (0x28, 4), (0x29, 2), (0x2A, 2), (0x2C, 4), (0x2D, 4),
    (0x2E, 6), (0x30, 2), (0x31, 5), (0x35, 4), (0x36, 6), (0x38, 2), (0x39, 4), (0x3D, 4), (0x3E, 7),
    (0x40, 6), (0x41, 6), (0x45, 3), (0x46, 5)] ++
  [(0x48, 3), (0x49, 2), (0x4A, 2), (0x4C, 3), (0x4D, 4), (0x4E, 6), (0x50, 2), (0x51, 5), (0x55, 4),
    (0x56, 6), (0x58, 2), (0x59, 4), (0x5D, 4), (0x5E, 7), (0x60, 6), (0x61, 6), (0x65, 3), (0x66, 5),
    (0x68, 4), (0x69, 2), (0x6A, 2), (0x6C, 5), (0x6D, 4), (0x6E, 6), (0x70, 2), (0x71, 5), (0x75, 4),
    (0x76, 6), (0x78, 2), (0x79, 4), (0x7D, 4), (0x7E, 7), (0x81, 6), (0x84, 3), (0x85, 3), (0x86, 3),
    (0x88, 2), (0x8A, 2), (0x8C, 4), (0x8D, 4)] ++
  [(0x8E, 4), (0x90, 2), (0x91, 6), (0x94, 4), (0x95, 4), (0x96, 4), (0x98, 2), (0x99, 5), (0x9A, 2),
    (0x9D, 5), (0xA0, 2), (0xA1, 6), (0xA2, 2), (0xA4, 3), (0xA5, 3), (0xA6, 3), (0xA8, 2), (0xA9, 2),
    (0xAA, 2), (0xAC, 4), (0xAD, 4), (0xAE, 4), (0xB0, 2), (0xB1, 5), (0xB4, 4), (0xB5, 4), (0xB6, 4),
    (0xB8, 2), (0xB9, 4), (0xBA, 2), (0xBC, 4), (0xBD, 4), (0xBE, 4), (0xC0, 2), (0xC1, 6), (0xC4, 3),
    (0xC5, 3), (0xC6, 5), (0xC8, 2), (0xC9, 2)] ++
  [(0xCA, 2), (0xCC, 4), (0xCD, 4), (0xCE, 6), (0xD0, 2), (0xD1, 5), (0xD5, 4), (0xD6, 6), (0xD8, 2),
    (0xD9, 4), (0xDD, 4), (0xDE, 7), (0xE0, 2), (0xE1, 6), (0xE4, 3), (0xE5, 3), (0xE6, 5), (0xE8, 2),
    (0xE9, 2), (0xEA, 2), (0xEC, 4), (0xED, 4), (0xEE, 6), (0xF0, 2), (0xF1, 5), (0xF5, 4), (0xF6, 6),
    (0xF8, 2), (0xF9, 4), (0xFD, 4), (0xFE, 7)]

/-- The little-endian pointer whose bytes stand at two addresses (R54). -/
def pointer (s : State) (lowAddr highAddr : Nat) : Nat :=
  256 * (s.mem.read highAddr).toNat + (s.mem.read lowAddr).toNat

/-- The effective address of a memory operand, in plain arithmetic (R116 to R125). -/
def address (o : Operand) (s : State) : Option Nat :=
  match o with
  | .implied | .accumulator | .immediate _ => none
  | .zeroPage b => some b.toNat
  | .zeroPageX b => some ((b.toNat + s.x.toNat) % 256)
  | .zeroPageY b => some ((b.toNat + s.y.toNat) % 256)
  | .absolute w => some w.toNat
  | .absoluteX w => some ((w.toNat + s.x.toNat) % 65536)
  | .absoluteY w => some ((w.toNat + s.y.toNat) % 65536)
  | .indirect w => some (pointer s w.toNat (w.toNat / 256 * 256 + (w.toNat + 1) % 256))
  | .indexedIndirect b =>
    some (pointer s ((b.toNat + s.x.toNat) % 256) ((b.toNat + s.x.toNat + 1) % 256))
  | .indirectIndexed b => some ((pointer s b.toNat ((b.toNat + 1) % 256) + s.y.toNat) % 65536)
  | .relative b => some (((s.pc.toNat + 2 + b.toInt) % 65536).toNat)

/-- The page-cross test: the page of the base address is not the page of the sum (R112). -/
def crosses (o : Operand) (s : State) : Bool :=
  let page (base sum : Nat) : Bool := decide (base % 65536 / 256 ≠ sum / 256)
  match o, address o s with
  | .absoluteX w, some ea => page w.toNat ea
  | .absoluteY w, some ea => page w.toNat ea
  | .indirectIndexed b, some ea => page (pointer s b.toNat ((b.toNat + 1) % 256)) ea
  | .relative _, some ea => page (s.pc.toNat + 2) ea
  | _, _ => false

/-- The byte an instruction's operand designates (R126). -/
def operandValue (i : Instr) (s : State) : Option Byte :=
  match i.operand with
  | .accumulator => some s.a
  | .immediate v => some v
  | o => (address o s).map s.mem.read

/-- `s` after a byte is stored where the operand designates (R126). -/
def stored (i : Instr) (s : State) (r : Byte) : State :=
  match i.operand with
  | .accumulator => { s with a := r }
  | o => match address o s with
    | some ea => { s with mem := s.mem.write ea r }
    | none => s

/-- The address after the instruction: PC plus its number of bytes, modulo 65536 (R140). -/
def pcAfter (i : Instr) (s : State) : Word := BitVec.ofNat 16 (s.pc.toNat + (encode i).length)

/-- The cycles of an instruction that is no branch: base cycles, plus 1 if its descriptor is eligible and its
address computation crosses a page (R127). -/
def cost (i : Instr) (s : State) : Nat :=
  i.descriptor.cycles + (if i.descriptor.penalty && crosses i.operand s then 1 else 0)

/-- `u` with Z and N set from a byte (R13). -/
def withZN (r : Byte) (u : State) : State := { u with z := decide (r.toNat = 0), n := decide (128 ≤ r.toNat) }

/-- A number reduced to a byte. -/
abbrev byte (n : Nat) : Byte := BitVec.ofNat 8 n

/-- A flag as the number 0 or 1. -/
abbrev num (b : Bool) : Nat := b.toNat

/-- The bytes at PC, PC+1, PC+2, modulo 65536. -/
def bytesAt (s : State) : List Byte :=
  [s.mem.read s.pc.toNat, s.mem.read ((s.pc.toNat + 1) % 65536), s.mem.read ((s.pc.toNat + 2) % 65536)]

/-- A state in which the next step executes an instruction (R280, R303). -/
def Executes (s : State) : Prop :=
  s.fsm = .running ∧ s.nmiPend = false ∧ (s.irqPend = false ∨ s.i = true)

/-- The state after the fetch of `i` at PC: outputs cleared, and one read recorded for each of its bytes. -/
def fetched (i : Instr) (s : State) : State :=
  { s with
    cycles := 0
    illegalOp := false
    bus := (List.range (encode i).length).map fun k =>
      .read (s.pc + BitVec.ofNat 16 k) (s.mem.read (s.pc + BitVec.ofNat 16 k).toNat) }

/-- The address of a stack slot: page 1 (R21). -/
def slot (sp : Byte) : Nat := 256 + sp.toNat

/-- Memory after a byte is pushed with the stack pointer at `sp` (R13). -/
def pushed (m : Memory) (sp v : Byte) : Memory := m.write (slot sp) v

/-- High and low byte of an address. -/
abbrev high (w : Word) : Byte := byte (w.toNat / 256)
abbrev low (w : Word) : Byte := byte w.toNat

/-- The byte pushed for the flags with Break marker `b` (R32). -/
def pushedFlags (s : State) (b : Nat) : Byte :=
  byte (128 * num s.n + 64 * num s.v + 32 + 16 * b + 8 * num s.d + 4 * num s.i + 2 * num s.z + num s.c)

/-- Memory after an interrupt entry at `s` with return address `ret` and Break marker `b` (R306). -/
def framePushed (s : State) (ret : Word) (b : Nat) : Memory :=
  pushed (pushed (pushed s.mem s.sp (high ret)) (s.sp - 1) (low ret)) (s.sp - 2) (pushedFlags s b)

/-- The six flags from a pulled byte; bits 4 and 5 are ignored (R33). -/
def withFlags (p : Byte) (u : State) : State :=
  { u with
    c := decide (p.toNat % 2 = 1), z := decide (p.toNat / 2 % 2 = 1), i := decide (p.toNat / 4 % 2 = 1)
    d := decide (p.toNat / 8 % 2 = 1), v := decide (p.toNat / 64 % 2 = 1), n := decide (128 ≤ p.toNat) }

/-- The 16-bit little-endian value at two memory addresses, as an address. -/
abbrev vector (m : Memory) (a : Nat) : Word := BitVec.ofNat 16 (256 * (m.read (a + 1)).toNat + (m.read a).toNat)

/-- The mnemonics of the eight branches, each with its condition (R201 to R208). -/
def branchTaken (m : Mnemonic) (s : State) : Option Bool :=
  match m with
  | .BCC => some (!s.c)
  | .BCS => some s.c
  | .BEQ => some s.z
  | .BNE => some (!s.z)
  | .BMI => some s.n
  | .BPL => some (!s.n)
  | .BVC => some (!s.v)
  | .BVS => some s.v
  | _ => none

/-- Whether a bus access is a write, and its address. -/
def shape : BusAccess → Bool × Nat
  | .read a _ => (false, a.toNat)
  | .write a _ => (true, a.toNat)

/-- The pointer reads of phase 2 of R58: those of the three modes that dereference a pointer. -/
def pointerReads (o : Operand) (s : State) : List (Bool × Nat) :=
  match o with
  | .indirect w => [(false, w.toNat), (false, w.toNat / 256 * 256 + (w.toNat + 1) % 256)]
  | .indexedIndirect b =>
    [(false, (b.toNat + s.x.toNat) % 256), (false, (b.toNat + s.x.toNat + 1) % 256)]
  | .indirectIndexed b => [(false, b.toNat), (false, (b.toNat + 1) % 256)]
  | _ => []

/-- The stack slot `k` above (`pull`) or below (`push`) the one S designates. -/
abbrev slotUp (s : State) (k : Nat) : Bool × Nat := (false, 256 + (s.sp.toNat + k) % 256)
abbrev slotDown (s : State) (k : Nat) : Bool × Nat := (true, 256 + (s.sp.toNat + 256 - k) % 256)

/-- The accesses of phase 3 of R58, by the instruction's class. -/
def executeAccesses (i : Instr) (s : State) : List (Bool × Nat) :=
  let ea (write : Bool) : List (Bool × Nat) := (address i.operand s).toList.map (write, ·)
  match i.descriptor.mnemonic with
  | .LDA | .LDX | .LDY | .ADC | .SBC | .AND | .ORA | .EOR | .BIT | .CMP | .CPX | .CPY => ea false
  | .STA | .STX | .STY => ea true
  | .ASL | .LSR | .ROL | .ROR | .INC | .DEC => ea false ++ ea true
  | .PHA | .PHP => [slotDown s 0]
  | .PLA | .PLP => [slotUp s 1]
  | .JSR => [slotDown s 0, slotDown s 1]
  | .RTS => [slotUp s 1, slotUp s 2]
  | .BRK => [slotDown s 0, slotDown s 1, slotDown s 2, (false, 0xFFFE), (false, 0xFFFF)]
  | .RTI => [slotUp s 1, slotUp s 2, slotUp s 3]
  | _ => []

/-- The mnemonics whose memory forms store, and those that push. -/
def modifies (m : Mnemonic) : Prop := m ∈ [.ASL, .LSR, .ROL, .ROR, .INC, .DEC]
def pushes (m : Mnemonic) : Prop := m ∈ [.PHA, .PHP, .JSR, .BRK]
def stores (m : Mnemonic) : Prop := m ∈ [.STA, .STX, .STY] ∨ modifies m

/-- The write columns of the table of R34: the mnemonics listed "w" or "rw" for each register and flag (A for the
shifts and rotates in their accumulator form). -/
def writersOfA : List Mnemonic :=
  [.LDA, .ADC, .SBC, .AND, .ORA, .EOR, .PLA, .TXA, .TYA, .ASL, .LSR, .ROL, .ROR]
def writersOfX : List Mnemonic := [.LDX, .INX, .DEX, .TAX, .TSX]
def writersOfY : List Mnemonic := [.LDY, .INY, .DEY, .TAY]
def writersOfS : List Mnemonic := [.JSR, .RTS, .BRK, .RTI, .PHA, .PLA, .PHP, .PLP, .TXS]
def writersOfC : List Mnemonic :=
  [.ADC, .SBC, .ASL, .LSR, .ROL, .ROR, .CMP, .CPX, .CPY, .CLC, .SEC, .PLP, .RTI]
def writersOfZN : List Mnemonic :=
  [.LDA, .LDX, .LDY, .ADC, .SBC, .AND, .ORA, .EOR, .BIT, .ASL, .LSR, .ROL, .ROR, .INC, .DEC, .INX, .DEX, .INY, .DEY,
   .CMP, .CPX, .CPY, .RTI, .PLA, .PLP, .TAX, .TAY, .TXA, .TYA, .TSX]
def writersOfI : List Mnemonic := [.SEI, .CLI, .PLP, .RTI, .BRK]
def writersOfD : List Mnemonic := [.SED, .CLD, .PLP, .RTI]
def writersOfV : List Mnemonic := [.ADC, .SBC, .BIT, .CLV, .PLP, .RTI]

/-- The control transfers, which assign PC themselves (R285). -/
def transfers : List Mnemonic :=
  [.BCC, .BCS, .BEQ, .BNE, .BMI, .BPL, .BVC, .BVS, .JMP, .JSR, .RTS, .RTI, .BRK]

/-- `n` executions of one instruction, one after the other. -/
def repeated (i : Instr) : Nat → State → Result
  | 0, s => .next s
  | k + 1, s => match exec i s with
    | .next t => repeated i k t
    | other => other

end Sys2Proof.Claims

open Sys2Proof Sys2Proof.Machine Sys2Proof.Claims Sys2Proof.Safety

/-! ### Encoding and decoding -/

/-- Decoding an encoded well-formed instruction gives it back, every operand at every value (R80, R81, R86, R90,
R92). The byte values are the spec's decisions D1 and D2 (log 5, log 6). -/
def Obligations.DecodeInvertsEncode : Prop :=
  ∀ (i : Instr) (rest : List Byte), i.WellFormed → decode (encode i ++ rest) = .ok (i, rest)

/-- Bytes that decode are the encoding of a well-formed instruction followed by the rest (R80, R81, R86). The byte
values are the spec's decisions D1 and D2 (log 5, log 6). -/
def Obligations.EncodeInvertsDecode : Prop :=
  ∀ (bytes rest : List Byte) (i : Instr), decode bytes = .ok (i, rest) → i.WellFormed ∧ encode i ++ rest = bytes

/-- R84: every opcode byte has a descriptor of nonzero length, that of its mode's format, and nonzero cycles. -/
def Obligations.EveryOpcodeHasDescriptor : Prop :=
  ∀ op : Byte, 0 < (lookup op).length ∧ (lookup op).length ≤ 3 ∧ 0 < (lookup op).cycles ∧
    (lookup op).length = (lookup op).mode.length

/-- R88: the penalty-eligible descriptors are the 23 of nine mnemonics in three modes. The spec's decision D1 (log
6). -/
def Obligations.PenaltyEligibleDescriptors : Prop :=
  (∀ op : Byte, (lookup op).penalty = true ↔
    ((lookup op).mnemonic ∈ [.LDA, .LDX, .LDY, .ADC, .SBC, .AND, .ORA, .EOR, .CMP] ∧
      (lookup op).mode ∈ [.absoluteX, .absoluteY, .indirectIndexed])) ∧
  ((List.range 256).filter fun k => (lookup (byte k)).penalty).length = 23

/-- The base cycles of every opcode byte: those of R90 for the documented bytes, 2 for the others (R92). The numbers
are the spec's decisions D1 and D2 (log 5, log 6). -/
def Obligations.BaseCyclesOfTable : Prop :=
  ∀ op : Byte, (lookup op).cycles = (documentedCycles.lookup op).getD 2

/-- Words written out from the spec's encodings decode to the instructions they stand for (R97, R125, R222). All but
the first three are the spec's decisions D1 and D2 (log 5, log 6). -/
def Obligations.WrittenWordsDecode : Prop :=
  decode [0xA9, 0x05, 0x69, 0x03, 0x8D, 0x00, 0x02] = .ok (.ldaImm 0x05, [0x69, 0x03, 0x8D, 0x00, 0x02]) ∧
  decode [0x69, 0x03, 0x8D, 0x00, 0x02] = .ok (.adcImm 0x03, [0x8D, 0x00, 0x02]) ∧
  decode [0x8D, 0x00, 0x02] = .ok (.staAbs 0x0200, []) ∧
  decode [0xF0, 0x03] = .ok (.beq 0x03, []) ∧
  decode [0x6C, 0xFF, 0x02] = .ok (.jmpInd 0x02FF, []) ∧
  decode [0x6A] = .ok (.rorAcc, []) ∧
  decode [0x00, 0xEA] = .ok (.brk, [0xEA]) ∧
  decode [0x02] = .ok (.ill 0x02, []) ∧
  decode [0x20, 0x00] = .error (.missingOperand 0x20)

/-- A step in a state that executes runs the instruction its bytes at PC decode to, on the state in which only the
fetch has happened; and three bytes always decode (R81, R83, R86, R283). What a step does first is the spec's
decision D23. -/
def Obligations.StepRunsDecodedInstruction : Prop :=
  (∀ (s : State) (i : Instr) (rest : List Byte), Executes s → decode (bytesAt s) = .ok (i, rest) →
    step s = exec i (fetched i s)) ∧
  (∀ s : State, ∃ i rest, decode (bytesAt s) = .ok (i, rest))

/-! ### Completion, safety and invariants -/

/-- R14: no instruction fails. Every instruction, well formed or not, answers a next state, in which CYC has grown by
the cycles charged, and these are positive. -/
def Obligations.EveryInstructionCompletes : Prop :=
  ∀ (i : Instr) (s : State), ∃ t, exec i s = .next t ∧ t.cyc = s.cyc + t.cycles ∧ 0 < t.cycles

/-- A step goes on from every state but one whose FSM is the transient ServicingInterrupt, which R280 says a step
never begins in; there the model stops by name (log 10). -/
def Obligations.StepStopsOnlyInServicing : Prop :=
  ∀ s : State, (s.fsm ≠ .servicingInterrupt → ∃ t, step s = .next t) ∧
    (s.fsm = .servicingInterrupt → step s = .fault .servicingAtBoundary)

/-- Memory in canonical form and FSM at a boundary: power-up has it (R42, R281). The canonical form is the model's
(log 3); the FSM part rests on the spec's decision D23. -/
def Obligations.BoundaryInvariantAtPowerUp : Prop := Inv State.reset

/-- Every step and every host operation keeps the boundary invariant, from any state that has it (R37, R281, R289).
The canonical form is the model's (log 3); the FSM part rests on the spec's decision D23. -/
def Obligations.BoundaryInvariantKept : Prop :=
  (∀ s t : State, Inv s → step s = .next t → Inv t) ∧
  (∀ (s : State) (op : HostOp), Inv s → Inv (applyHostOp op s))

/-- Whatever the host does between steps, no run ever stops: every reachable state has the invariant and steps to a
next state (R14, R51, R300). Which host operations exist is the spec's decisions D11, D12 and D30. -/
def Obligations.RunsNeverStop : Prop :=
  ∀ s : State, Reachable s → Inv s ∧ Proceeds s

/-- Canonical memories that read alike at every address are equal. The canonical form is the model's (log 3). -/
def Obligations.CanonicalMemoriesAgree : Prop :=
  ∀ m m' : Memory, m.wf → m'.wf → (∀ a : Nat, a < 65536 → m.read a = m'.read a) → m = m'

/-! ### The resolver -/

/-- R113 to R119: the modes that dereference no pointer and add no 16-bit index. The four forms of a result are the
spec's decision D25. Operand bytes are read before the resolver runs (log 8). -/
def Obligations.ResolveDirectModes : Prop :=
  ∀ (s : State) (b : Byte) (w : Word),
    resolve .implied s = (⟨.none, false⟩, s) ∧
    resolve .accumulator s = (⟨.acc, false⟩, s) ∧
    resolve (.immediate b) s = (⟨.imm b, false⟩, s) ∧
    resolve (.zeroPage b) s = (⟨.mem (BitVec.ofNat 16 b.toNat), false⟩, s) ∧
    resolve (.zeroPageX b) s = (⟨.mem (BitVec.ofNat 16 ((b.toNat + s.x.toNat) % 256)), false⟩, s) ∧
    resolve (.zeroPageY b) s = (⟨.mem (BitVec.ofNat 16 ((b.toNat + s.y.toNat) % 256)), false⟩, s) ∧
    resolve (.absolute w) s = (⟨.mem w, false⟩, s)

/-- R120, R121: the sum modulo 65536, and a crossing exactly when the high byte changes. Operand bytes are read
before the resolver runs (log 8). -/
def Obligations.ResolveIndexedAbsolute : Prop :=
  ∀ (s : State) (w : Word),
    resolve (.absoluteX w) s = (⟨.mem (BitVec.ofNat 16 (w.toNat + s.x.toNat)),
      decide (w.toNat / 256 ≠ (w.toNat + s.x.toNat) % 65536 / 256)⟩, s) ∧
    resolve (.absoluteY w) s = (⟨.mem (BitVec.ofNat 16 (w.toNat + s.y.toNat)),
      decide (w.toNat / 256 ≠ (w.toNat + s.y.toNat) % 65536 / 256)⟩, s)

/-- R122: both pointer bytes come from one page; with the pointer at 0xFF of a page the high byte comes from its
start. Operand bytes are read before the resolver runs (log 8). -/
def Obligations.IndirectPointerStaysInPage : Prop :=
  ∀ (s : State) (w : Word),
    (resolve (.indirect w) s).1 =
      ⟨.mem (BitVec.ofNat 16 (pointer s w.toNat (w.toNat / 256 * 256 + (w.toNat + 1) % 256))), false⟩ ∧
    arch (resolve (.indirect w) s).2 = arch s ∧
    ((resolve (.indirect w) s).2.bus.drop s.bus.length).map shape =
      [(false, w.toNat), (false, w.toNat / 256 * 256 + (w.toNat + 1) % 256)]

/-- R123, R124: zero-page pointers wrap inside page 0; the indexed base may cross a page. That pointers wrap in page
0 is the spec's decision D15. -/
def Obligations.ZeroPagePointersWrap : Prop :=
  ∀ (s : State) (b : Byte),
    (resolve (.indexedIndirect b) s).1 = ⟨.mem (BitVec.ofNat 16
      (pointer s ((b.toNat + s.x.toNat) % 256) ((b.toNat + s.x.toNat + 1) % 256))), false⟩ ∧
    (resolve (.indirectIndexed b) s).1 =
      (let base := pointer s b.toNat ((b.toNat + 1) % 256)
       ⟨.mem (BitVec.ofNat 16 (base + s.y.toNat)), decide (base / 256 ≠ (base + s.y.toNat) % 65536 / 256)⟩) ∧
    arch (resolve (.indexedIndirect b) s).2 = arch s ∧ arch (resolve (.indirectIndexed b) s).2 = arch s

/-- R125: the target counts from the address after the branch, and the page compared is that address's. The offset
byte is read before the resolver runs (log 8). -/
def Obligations.ResolveRelative : Prop :=
  ∀ (s : State) (b : Byte),
    resolve (.relative b) s = (⟨.mem (BitVec.ofInt 16 (s.pc.toNat + 2 + b.toInt)),
      decide ((s.pc.toNat + 2) % 65536 / 256 ≠ ((s.pc.toNat + 2 + b.toInt) % 65536).toNat / 256)⟩, s)

/-! ### Loads and stores -/

/-- R141, R142, R143: the register is the operand's byte, Z and N are set from it, and nothing else changes. -/
def Obligations.LoadResults : Prop :=
  ∀ (i : Instr) (s : State),
    (Is i .LDA → ∃ m, operandValue i s = some m ∧
      Completes i s (withZN m { s with a := m, pc := pcAfter i s }) (cost i s)) ∧
    (Is i .LDX → ∃ m, operandValue i s = some m ∧
      Completes i s (withZN m { s with x := m, pc := pcAfter i s }) (cost i s)) ∧
    (Is i .LDY → ∃ m, operandValue i s = some m ∧
      Completes i s (withZN m { s with y := m, pc := pcAfter i s }) (cost i s)) ∧
    RowsOf .LDA [(0xA9, .immediate, false), (0xA5, .zeroPage, false), (0xB5, .zeroPageX, false),
      (0xAD, .absolute, false), (0xBD, .absoluteX, true), (0xB9, .absoluteY, true),
      (0xA1, .indexedIndirect, false), (0xB1, .indirectIndexed, true)] ∧
    RowsOf .LDX [(0xA2, .immediate, false), (0xA6, .zeroPage, false), (0xB6, .zeroPageY, false),
      (0xAE, .absolute, false), (0xBE, .absoluteY, true)] ∧
    RowsOf .LDY [(0xA0, .immediate, false), (0xA4, .zeroPage, false), (0xB4, .zeroPageX, false),
      (0xAC, .absolute, false), (0xBC, .absoluteX, true)]

/-- R144, R145, R146: the register is stored at the effective address and nothing else changes, no flag either; no
store pays a page penalty. -/
def Obligations.StoreResults : Prop :=
  ∀ (i : Instr) (s : State),
    (Is i .STA → ∃ ea, address i.operand s = some ea ∧
      Completes i s { s with mem := s.mem.write ea s.a, pc := pcAfter i s } i.descriptor.cycles) ∧
    (Is i .STX → ∃ ea, address i.operand s = some ea ∧
      Completes i s { s with mem := s.mem.write ea s.x, pc := pcAfter i s } i.descriptor.cycles) ∧
    (Is i .STY → ∃ ea, address i.operand s = some ea ∧
      Completes i s { s with mem := s.mem.write ea s.y, pc := pcAfter i s } i.descriptor.cycles) ∧
    RowsOf .STA [(0x85, .zeroPage, false), (0x95, .zeroPageX, false), (0x8D, .absolute, false),
      (0x9D, .absoluteX, false), (0x99, .absoluteY, false), (0x81, .indexedIndirect, false),
      (0x91, .indirectIndexed, false)] ∧
    RowsOf .STX [(0x86, .zeroPage, false), (0x96, .zeroPageY, false), (0x8E, .absolute, false)] ∧
    RowsOf .STY [(0x84, .zeroPage, false), (0x94, .zeroPageX, false), (0x8C, .absolute, false)]

/-! ### Arithmetic -/

/-- R150: the sum modulo 256, the carry out of bit 7, and the signed overflow in both of its forms. -/
def Obligations.AdderIsExact : Prop :=
  ∀ (a m : Byte) (cin : Bool),
    let sum := addWithCarry a m cin
    sum.r.toNat = (a.toNat + m.toNat + num cin) % 256 ∧
    (sum.cout = true ↔ 255 < a.toNat + m.toNat + num cin) ∧
    (sum.ovf = true ↔ (a.msb = m.msb ∧ sum.r.msb ≠ a.msb)) ∧
    (sum.ovf = true ↔ (a.toInt + m.toInt + num cin < -128 ∨ 127 < a.toInt + m.toInt + num cin))

/-- R151: A is the sum of A, the operand and C modulo 256; C its carry, V its signed overflow, Z and N the byte's. It
holds whatever D is: that D plays no part is the spec's decision D13 (log 16). -/
def Obligations.AdcResult : Prop :=
  ∀ (i : Instr) (s : State),
    (Is i .ADC → ∃ m, operandValue i s = some m ∧
      let r := byte (s.a.toNat + m.toNat + num s.c)
      let signed := s.a.toInt + m.toInt + num s.c
      Completes i s (withZN r { s with
        a := r, c := decide (255 < s.a.toNat + m.toNat + num s.c),
        v := decide (signed < -128 ∨ 127 < signed), pc := pcAfter i s }) (cost i s)) ∧
    RowsOf .ADC [(0x69, .immediate, false), (0x65, .zeroPage, false), (0x75, .zeroPageX, false),
      (0x6D, .absolute, false), (0x7D, .absoluteX, true), (0x79, .absoluteY, true),
      (0x61, .indexedIndirect, false), (0x71, .indirectIndexed, true)]

/-- R152: A is A minus the operand minus the borrow modulo 256; C says that no borrow occurred, V that the signed
difference is out of range. It holds whatever D is: that D plays no part is the spec's decision D13 (log 16). -/
def Obligations.SbcResult : Prop :=
  ∀ (i : Instr) (s : State),
    (Is i .SBC → ∃ m, operandValue i s = some m ∧
      let r : Byte := BitVec.ofInt 8 ((s.a.toNat : Int) - m.toNat - (1 - num s.c))
      let signed := s.a.toInt - m.toInt - (1 - num s.c)
      Completes i s (withZN r { s with
        a := r, c := decide (m.toNat + (1 - num s.c) ≤ s.a.toNat),
        v := decide (signed < -128 ∨ 127 < signed), pc := pcAfter i s }) (cost i s)) ∧
    RowsOf .SBC [(0xE9, .immediate, false), (0xE5, .zeroPage, false), (0xF5, .zeroPageX, false),
      (0xED, .absolute, false), (0xFD, .absoluteX, true), (0xF9, .absoluteY, true),
      (0xE1, .indexedIndirect, false), (0xF1, .indirectIndexed, true)]

/-- The round trip R153 requires: SBC of `b` with C set undoes ADC of `b` with C clear. It holds whatever D is: that
D plays no part is the spec's decision D13 (log 16). -/
def Obligations.SubtractUndoesAdd : Prop :=
  ∀ (s : State) (b : Byte), s.c = false →
    ∃ t u, exec (.adcImm b) s = .next t ∧ exec (.sbcImm b) { t with c := true } = .next u ∧ u.a = s.a

/-- R154, for every instruction: only PHP and BRK, which push D, and the instructions that write D can behave
differently with another D; all others, ADC and SBC among them, do the same and leave D alone. The spec's decision
D13 (log 16). -/
def Obligations.DecimalFlagIsStorageOnly : Prop :=
  ∀ (i : Instr) (s : State) (b : Bool), i.WellFormed →
    i.descriptor.mnemonic ∉ [.PHP, .BRK, .SED, .CLD, .PLP, .RTI] →
    ∃ t, exec i s = .next t ∧ t.d = s.d ∧ exec i { s with d := b } = .next { t with d := b }

/-- R155, R156: one more or one less, modulo 256, at the effective address; Z and N from it; C and V untouched. The
spec's decision D26; memory that stores what is written is the model's (log 3). -/
def Obligations.MemoryIncrements : Prop :=
  ∀ (i : Instr) (s : State),
    (Is i .INC → ∃ ea, address i.operand s = some ea ∧
      let r := byte ((s.mem.read ea).toNat + 1)
      Completes i s (withZN r { s with mem := s.mem.write ea r, pc := pcAfter i s }) i.descriptor.cycles) ∧
    (Is i .DEC → ∃ ea, address i.operand s = some ea ∧
      let r := byte ((s.mem.read ea).toNat + 255)
      Completes i s (withZN r { s with mem := s.mem.write ea r, pc := pcAfter i s }) i.descriptor.cycles) ∧
    RowsOf .INC [(0xE6, .zeroPage, false), (0xF6, .zeroPageX, false), (0xEE, .absolute, false),
      (0xFE, .absoluteX, false)] ∧
    RowsOf .DEC [(0xC6, .zeroPage, false), (0xD6, .zeroPageX, false), (0xCE, .absolute, false),
      (0xDE, .absoluteX, false)]

/-- R157 to R160: X or Y one more or one less, modulo 256, with Z and N; C and V untouched. The spec's decision D26.
-/
def Obligations.RegisterIncrements : Prop :=
  ∀ s : State,
    Completes .inx s (withZN (byte (s.x.toNat + 1)) { s with x := byte (s.x.toNat + 1), pc := pcAfter .inx s }) 2 ∧
    Completes .iny s (withZN (byte (s.y.toNat + 1)) { s with y := byte (s.y.toNat + 1), pc := pcAfter .iny s }) 2 ∧
    Completes .dex s
      (withZN (byte (s.x.toNat + 255)) { s with x := byte (s.x.toNat + 255), pc := pcAfter .dex s }) 2 ∧
    Completes .dey s
      (withZN (byte (s.y.toNat + 255)) { s with y := byte (s.y.toNat + 255), pc := pcAfter .dey s }) 2 ∧
    RowsOf .INX [(0xE8, .implied, false)] ∧ RowsOf .INY [(0xC8, .implied, false)] ∧
    RowsOf .DEX [(0xCA, .implied, false)] ∧ RowsOf .DEY [(0x88, .implied, false)]

/-! ### Logic, shifts, compares -/

/-- R170 to R173: A combined bit by bit with the operand; Z and N from it; C and V untouched. -/
def Obligations.LogicalResults : Prop :=
  ∀ (i : Instr) (s : State),
    (Is i .AND → ∃ m, operandValue i s = some m ∧ let r := byte (s.a.toNat &&& m.toNat)
      Completes i s (withZN r { s with a := r, pc := pcAfter i s }) (cost i s)) ∧
    (Is i .ORA → ∃ m, operandValue i s = some m ∧ let r := byte (s.a.toNat ||| m.toNat)
      Completes i s (withZN r { s with a := r, pc := pcAfter i s }) (cost i s)) ∧
    (Is i .EOR → ∃ m, operandValue i s = some m ∧ let r := byte (s.a.toNat ^^^ m.toNat)
      Completes i s (withZN r { s with a := r, pc := pcAfter i s }) (cost i s)) ∧
    RowsOf .AND [(0x29, .immediate, false), (0x25, .zeroPage, false), (0x35, .zeroPageX, false),
      (0x2D, .absolute, false), (0x3D, .absoluteX, true), (0x39, .absoluteY, true),
      (0x21, .indexedIndirect, false), (0x31, .indirectIndexed, true)] ∧
    RowsOf .ORA [(0x09, .immediate, false), (0x05, .zeroPage, false), (0x15, .zeroPageX, false),
      (0x0D, .absolute, false), (0x1D, .absoluteX, true), (0x19, .absoluteY, true),
      (0x01, .indexedIndirect, false), (0x11, .indirectIndexed, true)] ∧
    RowsOf .EOR [(0x49, .immediate, false), (0x45, .zeroPage, false), (0x55, .zeroPageX, false),
      (0x4D, .absolute, false), (0x5D, .absoluteX, true), (0x59, .absoluteY, true),
      (0x41, .indexedIndirect, false), (0x51, .indirectIndexed, true)]

/-- R174: Z says that A and the byte share no set bit; N and V copy bits 7 and 6 of the byte; A is not written. The
spec's decision D26. -/
def Obligations.BitTestResult : Prop :=
  ∀ (i : Instr) (s : State),
    (Is i .BIT → ∃ m, operandValue i s = some m ∧
      Completes i s { s with
        z := decide (s.a.toNat &&& m.toNat = 0)
        n := decide (128 ≤ m.toNat)
        v := decide (m.toNat / 64 % 2 = 1)
        pc := pcAfter i s } (cost i s)) ∧
    RowsOf .BIT [(0x24, .zeroPage, false), (0x2C, .absolute, false)]

/-- R180 to R184: one bit position, with C the bit shifted out and the old C entering in the rotates; stored where
the operand was; Z and N of the result; no page penalty. -/
def Obligations.ShiftResults : Prop :=
  ∀ (i : Instr) (s : State),
    (Is i .ASL → ∃ m, operandValue i s = some m ∧ let r := byte (2 * m.toNat)
      Completes i s (withZN r { stored i s r with c := decide (128 ≤ m.toNat), pc := pcAfter i s })
        i.descriptor.cycles) ∧
    (Is i .LSR → ∃ m, operandValue i s = some m ∧ let r := byte (m.toNat / 2)
      Completes i s (withZN r { stored i s r with c := decide (m.toNat % 2 = 1), pc := pcAfter i s })
        i.descriptor.cycles) ∧
    (Is i .ROL → ∃ m, operandValue i s = some m ∧ let r := byte (2 * m.toNat + num s.c)
      Completes i s (withZN r { stored i s r with c := decide (128 ≤ m.toNat), pc := pcAfter i s })
        i.descriptor.cycles) ∧
    (Is i .ROR → ∃ m, operandValue i s = some m ∧ let r := byte (m.toNat / 2 + 128 * num s.c)
      Completes i s (withZN r { stored i s r with c := decide (m.toNat % 2 = 1), pc := pcAfter i s })
        i.descriptor.cycles) ∧
    RowsOf .ASL [(0x0A, .accumulator, false), (0x06, .zeroPage, false), (0x16, .zeroPageX, false),
      (0x0E, .absolute, false), (0x1E, .absoluteX, false)] ∧
    RowsOf .LSR [(0x4A, .accumulator, false), (0x46, .zeroPage, false), (0x56, .zeroPageX, false),
      (0x4E, .absolute, false), (0x5E, .absoluteX, false)] ∧
    RowsOf .ROL [(0x2A, .accumulator, false), (0x26, .zeroPage, false), (0x36, .zeroPageX, false),
      (0x2E, .absolute, false), (0x3E, .absoluteX, false)] ∧
    RowsOf .ROR [(0x6A, .accumulator, false), (0x66, .zeroPage, false), (0x76, .zeroPageX, false),
      (0x6E, .absolute, false), (0x7E, .absoluteX, false)]

/-- The 9-bit rotation of R183: nine ROLs of the accumulator restore A and C. -/
def Obligations.NineRotatesRestore : Prop :=
  ∀ s : State, ∃ t, repeated .rolAcc 9 s = .next t ∧ t.a = s.a ∧ t.c = s.c ∧ t.mem = s.mem

/-- R190 to R193: C says register ≥ operand unsigned, Z that they are equal, N is bit 7 of the difference; V and the
registers are untouched, and the old C plays no part. The carry-in of 1 is the spec's decision D21. -/
def Obligations.CompareResults : Prop :=
  ∀ (i : Instr) (s : State),
    (∀ (mn : Mnemonic) (reg : Byte), (mn, reg) = (.CMP, s.a) ∨ (mn, reg) = (.CPX, s.x) ∨ (mn, reg) = (.CPY, s.y) →
      Is i mn → ∃ m, operandValue i s = some m ∧
        Completes i s { s with
          c := decide (m.toNat ≤ reg.toNat)
          z := decide (reg = m)
          n := decide (128 ≤ (reg.toNat + 256 - m.toNat) % 256)
          pc := pcAfter i s } (cost i s)) ∧
    RowsOf .CMP [(0xC9, .immediate, false), (0xC5, .zeroPage, false), (0xD5, .zeroPageX, false),
      (0xCD, .absolute, false), (0xDD, .absoluteX, true), (0xD9, .absoluteY, true),
      (0xC1, .indexedIndirect, false), (0xD1, .indirectIndexed, true)] ∧
    RowsOf .CPX [(0xE0, .immediate, false), (0xE4, .zeroPage, false), (0xEC, .absolute, false)] ∧
    RowsOf .CPY [(0xC0, .immediate, false), (0xC4, .zeroPage, false), (0xCC, .absolute, false)]

/-! ### Control transfer -/

/-- R200 to R208: a taken branch goes to the address after it plus the signed offset, for one cycle more, two if the
page changes; a branch not taken goes on, for its two cycles. Nothing else changes. That the two cycles hold for a
self-branch too, where R290 says 3 in all, is the model's choice (log 18). -/
def Obligations.BranchResults : Prop :=
  (∀ (i : Instr) (s : State) (b : Byte) (taken : Bool), i.WellFormed →
    branchTaken i.descriptor.mnemonic s = some taken → i.operand = .relative b →
      Completes i s { s with pc := if taken then BitVec.ofInt 16 (s.pc.toNat + 2 + b.toInt) else pcAfter i s }
        (if taken then (if crosses (.relative b) s then 4 else 3) else 2)) ∧
  (∀ (i : Instr) (s : State) (taken : Bool), i.WellFormed → branchTaken i.descriptor.mnemonic s = some taken →
    ∃ b, i.operand = .relative b) ∧
  RowsOf .BCC [(0x90, .relative, false)] ∧ RowsOf .BCS [(0xB0, .relative, false)] ∧
  RowsOf .BEQ [(0xF0, .relative, false)] ∧ RowsOf .BNE [(0xD0, .relative, false)] ∧
  RowsOf .BMI [(0x30, .relative, false)] ∧ RowsOf .BPL [(0x10, .relative, false)] ∧
  RowsOf .BVC [(0x50, .relative, false)] ∧ RowsOf .BVS [(0x70, .relative, false)]

/-- R221, R222: PC becomes the operand, or the pointer's target with the same-page wrap; nothing else changes. -/
def Obligations.JumpResults : Prop :=
  ∀ (s : State) (w : Word),
    Completes (.jmpAbs w) s { s with pc := w } 3 ∧
    Completes (.jmpInd w) s { s with
      pc := BitVec.ofNat 16 (pointer s w.toNat (w.toNat / 256 * 256 + (w.toNat + 1) % 256)) } 5 ∧
    RowsOf .JMP [(0x4C, .absolute, false), (0x6C, .indirect, false)]

/-- R223: the address of JSR's last byte is pushed, high byte first, and PC becomes the operand. The order of the two
pushes is the spec's decision D16. -/
def Obligations.JsrResult : Prop :=
  ∀ (s : State) (w : Word),
    (let ret : Word := BitVec.ofNat 16 (s.pc.toNat + 2)
     Completes (.jsr w) s { s with
      mem := pushed (pushed s.mem s.sp (high ret)) (s.sp - 1) (low ret), sp := s.sp - 2, pc := w } 6) ∧
    RowsOf .JSR [(0x20, .absolute, false)]

/-- R224: two bytes are pulled, low byte first, and PC is their value plus one. The order of the two pulls is the
spec's decision D16. -/
def Obligations.RtsResult : Prop :=
  ∀ s : State,
    Completes .rts s { s with
      sp := s.sp + 2, pc := BitVec.ofNat 16 (pointer s (slot (s.sp + 1)) (slot (s.sp + 2)) + 1) } 6 ∧
    RowsOf .RTS [(0x60, .implied, false)]

/-- R225: PC plus 2 and the flags with the Break marker set are pushed, I is set after the push, and PC comes from
the IRQ vector; D and the other flags are untouched, and FSM is Running afterwards. The spec's decisions D4, D5, D16
and D17. -/
def Obligations.BrkResult : Prop :=
  ∀ s : State,
    (let m := framePushed s (BitVec.ofNat 16 (s.pc.toNat + 2)) 1
     Completes .brk s { s with mem := m, sp := s.sp - 3, i := true, pc := vector m 0xFFFE, fsm := .running } 7) ∧
    RowsOf .BRK [(0x00, .implied, false)]

/-- R226: the six flags from the first pulled byte, PC from the next two, with nothing added. The spec's decisions D4
and D16. -/
def Obligations.RtiResult : Prop :=
  ∀ s : State,
    Completes .rti s (withFlags (s.mem.read (slot (s.sp + 1))) { s with
      sp := s.sp + 3, pc := BitVec.ofNat 16 (pointer s (slot (s.sp + 2)) (slot (s.sp + 3))) }) 6 ∧
    RowsOf .RTI [(0x40, .implied, false)]

/-- A subroutine that returns at once resumes after the JSR with the stack pointer restored (R223, R224). It needs
memory to return what was written, the model's choice (log 3). -/
def Obligations.SubroutineRoundTrip : Prop :=
  ∀ (s : State) (w : Word), s.mem.wf →
    ∃ t u, exec (.jsr w) s = .next t ∧ exec .rts t = .next u ∧ t.pc = w ∧
      u.pc = BitVec.ofNat 16 (s.pc.toNat + 3) ∧ u.sp = s.sp

/-- R309: RTI right after an entry resumes where the entry interrupted, at PC for NMI and IRQ and at PC plus 2 for
BRK, with the stack pointer, the six flags and A, X, Y as they were. It rests on the spec's decisions D4, D16 and
D17, and on memory that returns what was written, the model's choice (log 3). -/
def Obligations.InterruptRoundTrip : Prop :=
  ∀ s : State, s.mem.wf →
    let restores (t : State) (resume : Word) : Prop :=
      ∃ u, exec .rti t = .next u ∧ u.pc = resume ∧ u.sp = s.sp ∧
        (u.c, u.z, u.i, u.d, u.v, u.n) = (s.c, s.z, s.i, s.d, s.v, s.n) ∧ (u.a, u.x, u.y) = (s.a, s.x, s.y)
    restores (interruptEntry .nmi s) s.pc ∧ restores (interruptEntry .irq s) s.pc ∧
      ∃ t, exec .brk s = .next t ∧ restores t (BitVec.ofNat 16 (s.pc.toNat + 2))

/-! ### Stack, transfers, flags, NOP, illegal opcodes -/

/-- R241 to R244: what the four stack instructions move, with S wrapping inside its page. The pushed and pulled
status bytes are the spec's decision D4. -/
def Obligations.StackInstructionResults : Prop :=
  ∀ s : State,
    Completes .pha s { s with mem := pushed s.mem s.sp s.a, sp := s.sp - 1, pc := pcAfter .pha s } 3 ∧
    Completes .pla s (withZN (s.mem.read (slot (s.sp + 1))) { s with
      a := s.mem.read (slot (s.sp + 1)), sp := s.sp + 1, pc := pcAfter .pla s }) 4 ∧
    Completes .php s { s with mem := pushed s.mem s.sp (pushedFlags s 1), sp := s.sp - 1, pc := pcAfter .php s } 3 ∧
    Completes .plp s (withFlags (s.mem.read (slot (s.sp + 1))) { s with
      sp := s.sp + 1, pc := pcAfter .plp s }) 4 ∧
    RowsOf .PHA [(0x48, .implied, false)] ∧ RowsOf .PLA [(0x68, .implied, false)] ∧
    RowsOf .PHP [(0x08, .implied, false)] ∧ RowsOf .PLP [(0x28, .implied, false)]

/-- R263: every stack access is in 0x0100 to 0x01FF; a push at S = 0x00 leaves 0xFF, a pull at 0xFF leaves 0x00; and
a pull after a push gives the byte back with S as it was. The stack page is the spec's decision D6. That a pull after
a push gives the byte back needs memory to return what was written, the model's choice (log 3). -/
def Obligations.StackWraps : Prop :=
  ∀ (s : State) (v : Byte),
    (stackAddr s.sp).toNat = 256 + s.sp.toNat ∧ 256 ≤ (stackAddr s.sp).toNat ∧ (stackAddr s.sp).toNat ≤ 511 ∧
    (push v s).mem = s.mem.write (stackAddr s.sp).toNat v ∧
    (push v s).sp.toNat = (s.sp.toNat + 255) % 256 ∧
    (pull s).2.sp.toNat = (s.sp.toNat + 1) % 256 ∧
    (pull s).1 = s.mem.read (256 + (s.sp.toNat + 1) % 256) ∧
    (s.mem.wf → (pull (push v s)).1 = v ∧ (pull (push v s)).2.sp = s.sp)

/-- R245 to R250: the six transfers; all but TXS set Z and N from the byte moved. TAX, TAY, TXA and TYA are the
spec's decision D26. -/
def Obligations.TransferResults : Prop :=
  ∀ s : State,
    Completes .tsx s (withZN s.sp { s with x := s.sp, pc := pcAfter .tsx s }) 2 ∧
    Completes .txs s { s with sp := s.x, pc := pcAfter .txs s } 2 ∧
    Completes .tax s (withZN s.a { s with x := s.a, pc := pcAfter .tax s }) 2 ∧
    Completes .tay s (withZN s.a { s with y := s.a, pc := pcAfter .tay s }) 2 ∧
    Completes .txa s (withZN s.x { s with a := s.x, pc := pcAfter .txa s }) 2 ∧
    Completes .tya s (withZN s.y { s with a := s.y, pc := pcAfter .tya s }) 2 ∧
    RowsOf .TSX [(0xBA, .implied, false)] ∧ RowsOf .TXS [(0x9A, .implied, false)] ∧
    RowsOf .TAX [(0xAA, .implied, false)] ∧ RowsOf .TAY [(0xA8, .implied, false)] ∧
    RowsOf .TXA [(0x8A, .implied, false)] ∧ RowsOf .TYA [(0x98, .implied, false)]

/-- R251 to R258: one flag set or cleared, nothing else; NOP does nothing but take its two cycles. -/
def Obligations.FlagAndNopResults : Prop :=
  ∀ s : State,
    Completes .clc s { s with c := false, pc := pcAfter .clc s } 2 ∧
    Completes .sec s { s with c := true, pc := pcAfter .sec s } 2 ∧
    Completes .cli s { s with i := false, pc := pcAfter .cli s } 2 ∧
    Completes .sei s { s with i := true, pc := pcAfter .sei s } 2 ∧
    Completes .cld s { s with d := false, pc := pcAfter .cld s } 2 ∧
    Completes .sed s { s with d := true, pc := pcAfter .sed s } 2 ∧
    Completes .clv s { s with v := false, pc := pcAfter .clv s } 2 ∧
    Completes .nop s { s with pc := pcAfter .nop s } 2 ∧
    RowsOf .CLC [(0x18, .implied, false)] ∧ RowsOf .SEC [(0x38, .implied, false)] ∧
    RowsOf .CLI [(0x58, .implied, false)] ∧ RowsOf .SEI [(0x78, .implied, false)] ∧
    RowsOf .CLD [(0xD8, .implied, false)] ∧ RowsOf .SED [(0xF8, .implied, false)] ∧
    RowsOf .CLV [(0xB8, .implied, false)] ∧ RowsOf .NOP [(0xEA, .implied, false)]

/-- R92, R262: each of the 105 undocumented bytes is a one-byte, two-cycle instruction that changes nothing but PC
and raises `illegal_op`; the other 151 bytes are documented. The policy NOP1 is the spec's decision D2 (log 5). -/
def Obligations.IllegalOpcodeResult : Prop :=
  undocumentedOpcodes.length = 105 ∧ undocumentedOpcodes.Nodup ∧
  (∀ op : Byte, op ∈ undocumentedOpcodes ↔ lookup op = ⟨.ILL, .implied, 2, 1, false⟩) ∧
  (∀ op : Byte, op ∉ undocumentedOpcodes → (lookup op).mnemonic ≠ .ILL) ∧
  ∀ (op : Byte) (s : State), op ∈ undocumentedOpcodes →
    decode [op] = .ok (.ill op, []) ∧
    ∃ t, exec (.ill op) s = .next t ∧ t.cycles = 2 ∧ t.illegalOp = true ∧
      arch t = arch { s with pc := BitVec.ofNat 16 (s.pc.toNat + 1), cyc := s.cyc + 2 }

/-! ### The status byte -/

/-- R33: pulling writes the six flags from bits 0, 1, 2, 3, 6, 7 and ignores bits 4 and 5, so pulling a pushed byte
restores the flags whatever its Break marker, and the status then shows as it did. The spec's decision D4. -/
def Obligations.PulledStatusByte : Prop :=
  ∀ (s u : State) (p : Byte) (b : Bool),
    setP p s = { s with
      c := p.getLsbD 0, z := p.getLsbD 1, i := p.getLsbD 2, d := p.getLsbD 3, v := p.getLsbD 6, n := p.getLsbD 7 } ∧
    setP (p ^^^ 0x30#8) s = setP p s ∧
    (let t := setP (pushedP b s) u
     (t.c, t.z, t.i, t.d, t.v, t.n) = (s.c, s.z, s.i, s.d, s.v, s.n) ∧ statusByte t = statusByte s)

/-! ### Whole-machine frames -/

/-- The write columns of the table of R34: an instruction that is not listed for a register or flag leaves it
unchanged. -/
def Obligations.OnlyListedInstructionsWriteRegisters : Prop :=
  ∀ (i : Instr) (s t : State), i.WellFormed → exec i s = .next t →
    let mn := i.descriptor.mnemonic
    (mn ∉ writersOfA ∨ (mn ∈ [.ASL, .LSR, .ROL, .ROR] ∧ i.operand ≠ .accumulator) → t.a = s.a) ∧
    (mn ∉ writersOfX → t.x = s.x) ∧ (mn ∉ writersOfY → t.y = s.y) ∧ (mn ∉ writersOfS → t.sp = s.sp) ∧
    (mn ∉ writersOfC → t.c = s.c) ∧ (mn ∉ writersOfZN → t.z = s.z ∧ t.n = s.n) ∧
    (mn ∉ writersOfI → t.i = s.i) ∧ (mn ∉ writersOfD → t.d = s.d) ∧ (mn ∉ writersOfV → t.v = s.v)

/-- Which bytes of memory an instruction can change: a storing form the byte at the address the resolver gives, a
push the slots it writes, and every other form none; a stored register reads back (R58, R34; plain RAM is the model's
choice, log 3). -/
def Obligations.OnlyStoredBytesChange : Prop :=
  ∀ (i : Instr) (s t : State), s.mem.wf → i.WellFormed → exec i s = .next t →
    let mn := i.descriptor.mnemonic
    (stores mn → ∀ ea, (resolve i.operand s).1.operand = .mem ea →
      (∀ a : Nat, a ≠ ea.toNat → t.mem.read a = s.mem.read a) ∧
      (mn = .STA → t.mem.read ea.toNat = s.a) ∧ (mn = .STX → t.mem.read ea.toNat = s.x) ∧
      (mn = .STY → t.mem.read ea.toNat = s.y)) ∧
    (pushes mn → ∀ a : Nat, (∀ k < (if mn = .BRK then 3 else if mn = .JSR then 2 else 1), a ≠ slot (s.sp - byte k)) →
      t.mem.read a = s.mem.read a) ∧
    (¬ stores mn ∧ ¬ pushes mn ∨ i.operand = .accumulator → ∀ a : Nat, t.mem.read a = s.mem.read a)

/-- R284: the cycles of every step, by kind; CYC grows by them and by nothing else. The 0 and the 7 are the spec's
decisions D8 and D9 (log 14). That a self-branch out of the page of PC + 2 takes 4, where R290 says 3, is the model's
choice (log 18). -/
def Obligations.CyclesOfAStep : Prop :=
  ∀ s t : State, step s = .next t →
    t.cyc = s.cyc + t.cycles ∧
    (s.fsm ≠ .running → t.cycles = 0) ∧
    (s.fsm = .running → ¬ Executes s → t.cycles = 7) ∧
    (∀ i rest, Executes s → decode (bytesAt s) = .ok (i, rest) →
      t.cycles = (match branchTaken i.descriptor.mnemonic s with
        | some taken => 2 + (if taken then (if crosses i.operand s then 2 else 1) else 0)
        | none => cost i s) ∧ 2 ≤ t.cycles ∧ t.cycles ≤ 7)

/-- R288: `illegal_op` is 1 exactly for a step that executed an opcode whose descriptor is `ILL`, `cycles` is what the
step added to CYC, and no step depends on the outputs of an earlier one. -/
def Obligations.IllegalOpSignal : Prop :=
  (∀ s t : State, step s = .next t →
    (t.illegalOp = true ↔ Executes s ∧ (lookup (s.mem.read s.pc.toNat)).mnemonic = .ILL) ∧
      t.cyc = s.cyc + t.cycles) ∧
  ∀ s : State, step (arch s) = step s

/-- R353: nothing depends on CYC. Two states that differ only in CYC step to states that differ only in CYC, by the
same amount. -/
def Obligations.NothingDependsOnCycleCounter : Prop :=
  ∀ (s t : State) (k : Nat), step s = .next t →
    step { s with cyc := s.cyc + k } = .next { t with cyc := t.cyc + k }

/-- R58: the complete access sequence of an instruction's step, and that of every other step. The spec's decision
D14; `bus` is the model's record of it (log 7). -/
def Obligations.BusAccessSequence : Prop :=
  ∀ s t : State, step s = .next t →
    (∀ i rest, Executes s → decode (bytesAt s) = .ok (i, rest) →
      t.bus.map shape = (List.range (encode i).length).map (fun k => (false, (s.pc.toNat + k) % 65536)) ++
        pointerReads i.operand s ++ executeAccesses i s) ∧
    (s.fsm = .running → ¬ Executes s → t.bus.map shape = [slotDown s 0, slotDown s 1, slotDown s 2] ++
      (if s.nmiPend then [(false, 0xFFFA), (false, 0xFFFB)] else [(false, 0xFFFE), (false, 0xFFFF)])) ∧
    (s.fsm = .reset → t.bus.map shape = [(false, 0xFFFC), (false, 0xFFFD)]) ∧
    (s.fsm = .halted → t.bus = [])

/-! ### Reset, interrupts, host -/

/-- R340: the state at power-up. All values but FSM are the spec's decision D7, unsafe where real silicon differs
(log 2); that State.reset is this state is log 1. -/
def Obligations.PowerUpState : Prop :=
  let s := State.reset
  (s.a, s.x, s.y, s.sp, s.pc) = (0, 0, 0, 0, 0) ∧
    (s.c, s.z, s.i, s.d, s.v, s.n) = (false, false, false, false, false, false) ∧
    s.cyc = 0 ∧ s.nmiPend = false ∧ s.irqPend = false ∧ s.fsm = .reset

/-- R304: the reset sequence: PC from the reset vector, S, I, the latches and FSM; nothing else, no cycles. The
vector, 0xFD, the zero cycles and what stays are the spec's decisions D5, D6 and D8. -/
def Obligations.ResetSequenceStep : Prop :=
  ∀ s : State, s.fsm = .reset →
    ∃ t, step s = .next t ∧ t.cycles = 0 ∧ t.illegalOp = false ∧
      t.bus = [.read 0xFFFC (s.mem.read 0xFFFC), .read 0xFFFD (s.mem.read 0xFFFD)] ∧
      arch t = arch { s with
        pc := vector s.mem 0xFFFC, sp := 0xFD, i := true, nmiPend := false, irqPend := false, fsm := .running }

/-- R306: the two interrupt entries: what is pushed, I set, only the latch of the kind cleared, PC from the vector,
seven cycles; A, X, Y, D and the other flags unchanged. NMI whatever I is and whether an IRQ is pending (R303). The
spec's decisions D4, D5, D9, D10 and D16. -/
def Obligations.InterruptEntrySteps : Prop :=
  ∀ s : State, s.fsm = .running →
    let m := framePushed s s.pc 0
    (s.nmiPend = true → ∃ t, step s = .next t ∧ t.cycles = 7 ∧ t.illegalOp = false ∧
      arch t = arch { s with
        mem := m, sp := s.sp - 3, i := true, nmiPend := false, pc := vector m 0xFFFA, cyc := s.cyc + 7 }) ∧
    (s.nmiPend = false → s.irqPend = true → s.i = false → ∃ t, step s = .next t ∧ t.cycles = 7 ∧ t.illegalOp = false ∧
      arch t = arch { s with
        mem := m, sp := s.sp - 3, i := true, irqPend := false, pc := vector m 0xFFFE, cyc := s.cyc + 7 })

/-- R287: a step in Halted changes nothing, makes no bus access and charges no cycles. The spec's decision D12. -/
def Obligations.HaltedStepDoesNothing : Prop :=
  ∀ s : State, s.fsm = .halted →
    ∃ t, step s = .next t ∧ arch t = arch s ∧ t.cycles = 0 ∧ t.illegalOp = false ∧ t.bus = []

/-- R282: where FSM goes in a step, whatever the instruction. The host rows are the spec's decision D12; that FSM
changes within a step only is its decision D23. -/
def Obligations.FsmTransitions : Prop :=
  (∀ s t : State, step s = .next t → t.fsm = (if s.fsm = .halted then .halted else .running)) ∧
  State.reset.fsm = .reset ∧
  (∀ s : State, applyHostOp .halt s = { s with fsm := .halted } ∧ applyHostOp .reset s = { s with fsm := .reset })

/-- What a step does to the request latches (R38): the entry of a kind clears its latch, the reset sequence both,
nothing else either; an IRQ request stays while I is set or an NMI goes first. The spec's decision D11. -/
def Obligations.RequestLatches : Prop :=
  ∀ s t : State, step s = .next t →
    t.nmiPend = (s.nmiPend && decide (s.fsm = .halted)) ∧
    t.irqPend = (s.irqPend && (decide (s.fsm = .halted) || (decide (s.fsm = .running) && (s.nmiPend || s.i))))

/-- The host's operations (R289): each changes the one thing named, and Inspect shows the registers, the status byte
with bit 5 set and bit 4 clear (R31), CYC and FSM. Which operations exist is the spec's decisions D11, D12, D23 and
D30; the status byte's layout is D3; plain RAM is log 3. -/
def Obligations.HostOperations : Prop :=
  ∀ (s : State) (a : Word) (b : Byte),
    applyHostOp .reset s = { s with fsm := .reset } ∧
    applyHostOp .injectNmi s = { s with nmiPend := true } ∧
    applyHostOp .injectIrq s = { s with irqPend := true } ∧
    applyHostOp .halt s = { s with fsm := .halted } ∧
    applyHostOp (.editMemory a b) s = { s with mem := s.mem.write a.toNat b } ∧
    inspect s = ⟨s.a, s.x, s.y, s.sp, s.pc, s.c, s.z, s.i, s.d, s.v, s.n,
      byte (128 * num s.n + 64 * num s.v + 32 + 8 * num s.d + 4 * num s.i + 2 * num s.z + num s.c), s.cyc, s.fsm⟩

/-- A change of I by CLI or SEI counts at the very next boundary (R311, the spec's decision D22): with an IRQ
pending, the step after a CLI is the IRQ entry, and the return address it pushes is that of the instruction after the
CLI; an IRQ requested right after an SEI stays latched through the next step. The clause on the return address reads
the pushed bytes back, which needs memory to return what was written, the model's choice (log 3). It covers CLI and
SEI, not the PLP and RTI of R311. -/
def Obligations.InterruptMaskTakesEffectAtOnce : Prop :=
  ∀ s : State, s.mem.wf → s.fsm = .running → s.nmiPend = false →
    (s.irqPend = true → s.i = true → s.mem.read s.pc.toNat = 0x58 →
      ∃ t u, step s = .next t ∧ step t = .next u ∧
        t.i = false ∧ u.irqPend = false ∧ u.cycles = 7 ∧ u.sp = s.sp - 3 ∧ u.pc = vector u.mem 0xFFFE ∧
        u.mem.read (slot s.sp) = high (s.pc + 1) ∧ u.mem.read (slot (s.sp - 1)) = low (s.pc + 1)) ∧
    (s.irqPend = false → s.mem.read s.pc.toNat = 0x78 →
      ∃ t u, step s = .next t ∧ step (applyHostOp .injectIrq t) = .next u ∧ t.i = true ∧ u.irqPend = true)
end

