-- ==== Sys2Proof/Laws/Bits.lean ====
section
/-! SUPPORT. The bit-field and byte-order helpers, and the flag computations, as arithmetic on numbers. -/

namespace Sys2Proof.Machine

theorem hi_toNat (w : Word) : (hi w).toNat = w.toNat / 256 := by
  have := w.isLt
  simp [hi, BitVec.extractLsb'_toNat, Nat.shiftRight_eq_div_pow]
  omega

theorem lo_toNat (w : Word) : (lo w).toNat = w.toNat % 256 := by
  simp [lo]

theorem word_toNat (h l : Byte) : (word h l).toNat = 256 * h.toNat + l.toNat := by
  have := l.isLt
  rw [word, BitVec.toNat_append, ← Nat.shiftLeft_add_eq_or_of_lt this, Nat.shiftLeft_eq]
  omega

@[simp] theorem word_hi_lo (w : Word) : word (hi w) (lo w) = w := by
  apply BitVec.eq_of_toNat_eq
  rw [word_toNat, hi_toNat, lo_toNat]
  omega

@[simp] theorem hi_word (h l : Byte) : hi (word h l) = h := by
  apply BitVec.eq_of_toNat_eq
  have := l.isLt
  rw [hi_toNat, word_toNat]
  omega

@[simp] theorem lo_word (h l : Byte) : lo (word h l) = l := by
  apply BitVec.eq_of_toNat_eq
  have := l.isLt
  rw [lo_toNat, word_toNat]
  omega

theorem zext16_toNat (b : Byte) : (zext16 b).toNat = b.toNat := by
  have := b.isLt
  simp only [zext16, BitVec.toNat_setWidth]
  omega

theorem sext16_toInt (b : Byte) : (sext16 b).toInt = b.toInt :=
  BitVec.toInt_signExtend_of_le (by omega)

theorem stackAddr_toNat (sp : Byte) : (stackAddr sp).toNat = 256 + sp.toNat := by
  rw [stackAddr, word_toNat]
  rfl

theorem pageCrossed_eq (base sum : Word) :
    pageCrossed base sum = decide (base.toNat / 256 ≠ sum.toNat / 256) := by
  have h : hi base = hi sum ↔ base.toNat / 256 = sum.toNat / 256 := by
    rw [← BitVec.toNat_inj, hi_toNat, hi_toNat]
  rw [pageCrossed, bne, beq_eq_decide, decide_eq_decide.mpr h, ← decide_not]

theorem bit_seven (v : Byte) : bit v 7 = decide (128 ≤ v.toNat) := by
  rw [bit, ← BitVec.msb_eq_getLsbD_last, BitVec.msb_eq_decide]

theorem bit_zero (v : Byte) : bit v 0 = decide (v.toNat % 2 = 1) := by
  simp [bit, BitVec.getLsbD, Nat.testBit_zero]

theorem bit_eq (v : Byte) (k : Nat) : bit v k = decide (v.toNat / 2 ^ k % 2 = 1) := by
  simp [bit, BitVec.getLsbD, Nat.testBit_eq_decide_div_mod_eq]

theorem isZero_eq (v : Byte) : (v == 0) = decide (v.toNat = 0) := by
  have h : v = 0#8 ↔ v.toNat = 0 := by rw [← BitVec.toNat_inj]; rfl
  simp [beq_eq_decide, h]

theorem setZN_eq (v : Byte) (s : State) :
    setZN v s = { s with z := decide (v.toNat = 0), n := decide (128 ≤ v.toNat) } := by
  rw [setZN, isZero_eq, bit_seven]

theorem flagsByte_toNat (b : Bool) (s : State) :
    (flagsByte b s).toNat = 128 * s.n.toNat + 64 * s.v.toNat + 32 + 16 * b.toNat + 8 * s.d.toNat + 4 * s.i.toNat
      + 2 * s.z.toNat + s.c.toNat := by
  have := s.n.toNat_le; have := s.v.toNat_le; have := b.toNat_le; have := s.d.toNat_le
  have := s.i.toNat_le; have := s.z.toNat_le; have := s.c.toNat_le
  rw [flagsByte, BitVec.toNat_ofNat]
  omega

/-- Each flag stands at its own place of the byte. -/
theorem flagsByte_bits : ∀ n v b d i z c : Bool,
    let p := 128 * n.toNat + 64 * v.toNat + 32 + 16 * b.toNat + 8 * d.toNat + 4 * i.toNat + 2 * z.toNat + c.toNat
    decide (p / 2 ^ 0 % 2 = 1) = c ∧ decide (p / 2 ^ 1 % 2 = 1) = z ∧ decide (p / 2 ^ 2 % 2 = 1) = i ∧
      decide (p / 2 ^ 3 % 2 = 1) = d ∧ decide (p / 2 ^ 6 % 2 = 1) = v ∧ decide (p / 2 ^ 7 % 2 = 1) = n := by
  decide

/-- Pulling a byte that was pushed for the flags gives the flags back (R32, R33). -/
theorem setP_flagsByte (b : Bool) (s u : State) :
    setP (flagsByte b s) u = { u with c := s.c, z := s.z, i := s.i, d := s.d, v := s.v, n := s.n } := by
  obtain ⟨h0, h1, h2, h3, h6, h7⟩ := flagsByte_bits s.n s.v b s.d s.i s.z s.c
  simp only [setP, bit_eq, flagsByte_toNat, h0, h1, h2, h3, h6, h7]

end Sys2Proof.Machine
end

