-- ==== Sys2Proof/Laws/Memory.lean ====
section
/-! SUPPORT. The laws of the memory behind the bus: read after write, and the canonical form. -/

namespace Sys2Proof.Machine.Memory

@[simp] theorem read_nil (a : Nat) : read [] a = unlistedByte := rfl

theorem read_cons (m : Memory) (k : Nat) (w : Byte) (a : Nat) :
    read ((k, w) :: m) a = if k = a then w else read m a := rfl

/-- Below the first address of a sorted memory nothing is listed. -/
theorem read_of_lt {m : Memory} {a : Nat} (h : ∀ p ∈ m, a < p.1) : read m a = unlistedByte := by
  induction m with
  | nil => rfl
  | cons p m ih =>
    obtain ⟨k, w⟩ := p
    have hk : a < k := h _ (List.mem_cons_self ..)
    rw [read_cons, if_neg (by omega)]
    exact ih fun q hq => h q (List.mem_cons_of_mem _ hq)

theorem wf_nil : wf [] := by simp [wf]

theorem wf_cons {m : Memory} {k : Nat} {w : Byte} :
    wf ((k, w) :: m) ↔ (∀ p ∈ m, k < p.1) ∧ k < 65536 ∧ w ≠ unlistedByte ∧ wf m := by
  simp only [wf, List.pairwise_cons, List.mem_cons, forall_eq_or_imp]
  tauto

/-- Putting a cell in front of a memory that does not list its address. -/
theorem read_front (a : Nat) (v : Byte) {m : Memory} (h : read m a = unlistedByte) (b : Nat) :
    read (Memory.cons a v m) b = if b = a then v else read m b := by
  unfold Memory.cons
  by_cases hv : v = unlistedByte
  · rw [if_pos hv]
    by_cases hb : b = a
    · rw [if_pos hb, hb, h, hv]
    · rw [if_neg hb]
  · rw [if_neg hv, read_cons]
    simp only [eq_comm]

/-- Writing changes the byte written and no other. -/
theorem read_write {m : Memory} (hm : wf m) (a : Nat) (v : Byte) (b : Nat) :
    read (write m a v) b = if b = a then v else read m b := by
  induction m with
  | nil => exact read_front a v rfl b
  | cons p m ih =>
    obtain ⟨k, w⟩ := p
    obtain ⟨hlt, _, _, hwf⟩ := wf_cons.mp hm
    unfold write
    by_cases h₁ : a < k
    · rw [if_pos h₁]
      refine read_front a v (read_of_lt fun q hq => ?_) b
      rcases List.mem_cons.mp hq with rfl | hq
      · exact h₁
      · exact lt_trans h₁ (hlt q hq)
    · rw [if_neg h₁]
      by_cases h₂ : a = k
      · subst h₂
        rw [if_pos rfl, read_front a v (read_of_lt hlt), read_cons]
        by_cases hb : b = a
        · rw [if_pos hb, if_pos hb]
        · rw [if_neg hb, if_neg hb, if_neg (Ne.symm hb)]
      · rw [if_neg h₂, read_cons, read_cons, ih hwf]
        by_cases hk : k = b
        · rw [if_pos hk, if_pos hk, if_neg (by omega)]
        · rw [if_neg hk, if_neg hk]

/-- Reading back the byte just written. -/
theorem read_write_same {m : Memory} (hm : wf m) (a : Nat) (v : Byte) : read (write m a v) a = v := by
  rw [read_write hm, if_pos rfl]

/-- A write leaves every other byte alone. -/
theorem read_write_other {m : Memory} (hm : wf m) {a b : Nat} (v : Byte) (h : b ≠ a) :
    read (write m a v) b = read m b := by
  rw [read_write hm, if_neg h]

/-- A cell of `cons` is the new one, if it is listed, or an old one. -/
theorem mem_front {m : Memory} {a : Nat} {v : Byte} {p : Host.Cell} (h : p ∈ Memory.cons a v m) :
    p ∈ m ∨ p = (a, v) := by
  unfold Memory.cons at h
  split at h
  · exact .inl h
  · exact (List.mem_cons.mp h).symm

/-- A write lists no address that was not listed, but its own. -/
theorem mem_write {m : Memory} {a : Nat} {v : Byte} {p : Host.Cell} (h : p ∈ write m a v) :
    p ∈ m ∨ p = (a, v) := by
  induction m with
  | nil => exact mem_front h
  | cons q m ih =>
    obtain ⟨k, w⟩ := q
    unfold write at h
    split at h
    · exact mem_front h
    · split at h
      · exact (mem_front h).imp_left (List.mem_cons_of_mem _)
      · rcases List.mem_cons.mp h with rfl | h
        · exact .inl (List.mem_cons_self ..)
        · exact (ih h).imp_left (List.mem_cons_of_mem _)

/-- `cons` keeps the canonical form in front of larger addresses. -/
theorem wf_front {m : Memory} (hm : wf m) {a : Nat} (ha : a < 65536) (hlt : ∀ p ∈ m, a < p.1) (v : Byte) :
    wf (Memory.cons a v m) := by
  unfold Memory.cons
  split
  · exact hm
  · exact wf_cons.mpr ⟨hlt, ha, ‹_›, hm⟩

/-- A write keeps the canonical form. -/
theorem wf_write {m : Memory} (hm : wf m) {a : Nat} (ha : a < 65536) (v : Byte) : wf (write m a v) := by
  induction m with
  | nil => exact wf_front hm ha (by simp) v
  | cons p m ih =>
    obtain ⟨k, w⟩ := p
    obtain ⟨hlt, hk, hw, hwf⟩ := wf_cons.mp hm
    unfold write
    split
    · rename_i h
      refine wf_front hm ha (fun q hq => ?_) v
      rcases List.mem_cons.mp hq with rfl | hq
      · exact h
      · exact lt_trans h (hlt q hq)
    · split
      · rename_i h
        exact wf_front hwf ha (h ▸ hlt) v
      · refine wf_cons.mpr ⟨fun q hq => ?_, hk, hw, ih hwf⟩
        rcases mem_write hq with hq | rfl
        · exact hlt q hq
        · show k < a
          omega

/-- Writing at a bus address keeps the canonical form: a 16-bit address is below 65536. -/
theorem wf_write_word {m : Memory} (hm : wf m) (a : Word) (v : Byte) : wf (write m a.toNat v) :=
  wf_write hm a.isLt v

end Sys2Proof.Machine.Memory

namespace Sys2Proof.Machine

/-- Placing bytes keeps the canonical form. -/
theorem placeBytes_wf {m : Memory} (hm : m.wf) (bytes : List Byte) (a : Word) : (placeBytes bytes a m).wf := by
  induction bytes generalizing a m with
  | nil => exact hm
  | cons b rest ih => exact ih (Memory.wf_write_word hm a b) (a + 1)

end Sys2Proof.Machine
end

