-- ==== Sys2Proof/Laws/State.lean ====
section
/-! SUPPORT. What each named operation does to each field of the state: one lemma per field, so that no later proof
unfolds a record update. -/

namespace Sys2Proof.Machine

section
variable (r : Byte) (s : State)

@[simp] theorem setZN_a : (setZN r s).a = s.a := rfl
@[simp] theorem setZN_x : (setZN r s).x = s.x := rfl
@[simp] theorem setZN_y : (setZN r s).y = s.y := rfl
@[simp] theorem setZN_sp : (setZN r s).sp = s.sp := rfl
@[simp] theorem setZN_pc : (setZN r s).pc = s.pc := rfl
@[simp] theorem setZN_c : (setZN r s).c = s.c := rfl
@[simp] theorem setZN_z : (setZN r s).z = (r == 0) := rfl
@[simp] theorem setZN_i : (setZN r s).i = s.i := rfl
@[simp] theorem setZN_d : (setZN r s).d = s.d := rfl
@[simp] theorem setZN_v : (setZN r s).v = s.v := rfl
@[simp] theorem setZN_n : (setZN r s).n = bit r 7 := rfl
@[simp] theorem setZN_cyc : (setZN r s).cyc = s.cyc := rfl
@[simp] theorem setZN_fsm : (setZN r s).fsm = s.fsm := rfl
@[simp] theorem setZN_nmiPend : (setZN r s).nmiPend = s.nmiPend := rfl
@[simp] theorem setZN_irqPend : (setZN r s).irqPend = s.irqPend := rfl
@[simp] theorem setZN_mem : (setZN r s).mem = s.mem := rfl
@[simp] theorem setZN_cycles : (setZN r s).cycles = s.cycles := rfl
@[simp] theorem setZN_illegalOp : (setZN r s).illegalOp = s.illegalOp := rfl
@[simp] theorem setZN_bus : (setZN r s).bus = s.bus := rfl

end

section
variable (p : Byte) (s : State)

@[simp] theorem setP_a : (setP p s).a = s.a := rfl
@[simp] theorem setP_x : (setP p s).x = s.x := rfl
@[simp] theorem setP_y : (setP p s).y = s.y := rfl
@[simp] theorem setP_sp : (setP p s).sp = s.sp := rfl
@[simp] theorem setP_pc : (setP p s).pc = s.pc := rfl
@[simp] theorem setP_c : (setP p s).c = bit p 0 := rfl
@[simp] theorem setP_z : (setP p s).z = bit p 1 := rfl
@[simp] theorem setP_i : (setP p s).i = bit p 2 := rfl
@[simp] theorem setP_d : (setP p s).d = bit p 3 := rfl
@[simp] theorem setP_v : (setP p s).v = bit p 6 := rfl
@[simp] theorem setP_n : (setP p s).n = bit p 7 := rfl
@[simp] theorem setP_cyc : (setP p s).cyc = s.cyc := rfl
@[simp] theorem setP_fsm : (setP p s).fsm = s.fsm := rfl
@[simp] theorem setP_nmiPend : (setP p s).nmiPend = s.nmiPend := rfl
@[simp] theorem setP_irqPend : (setP p s).irqPend = s.irqPend := rfl
@[simp] theorem setP_mem : (setP p s).mem = s.mem := rfl
@[simp] theorem setP_cycles : (setP p s).cycles = s.cycles := rfl
@[simp] theorem setP_illegalOp : (setP p s).illegalOp = s.illegalOp := rfl
@[simp] theorem setP_bus : (setP p s).bus = s.bus := rfl

end

section
variable (w : Word) (s : State)

@[simp] theorem memRead_a : (memRead w s).2.a = s.a := rfl
@[simp] theorem memRead_x : (memRead w s).2.x = s.x := rfl
@[simp] theorem memRead_y : (memRead w s).2.y = s.y := rfl
@[simp] theorem memRead_sp : (memRead w s).2.sp = s.sp := rfl
@[simp] theorem memRead_pc : (memRead w s).2.pc = s.pc := rfl
@[simp] theorem memRead_c : (memRead w s).2.c = s.c := rfl
@[simp] theorem memRead_z : (memRead w s).2.z = s.z := rfl
@[simp] theorem memRead_i : (memRead w s).2.i = s.i := rfl
@[simp] theorem memRead_d : (memRead w s).2.d = s.d := rfl
@[simp] theorem memRead_v : (memRead w s).2.v = s.v := rfl
@[simp] theorem memRead_n : (memRead w s).2.n = s.n := rfl
@[simp] theorem memRead_cyc : (memRead w s).2.cyc = s.cyc := rfl
@[simp] theorem memRead_fsm : (memRead w s).2.fsm = s.fsm := rfl
@[simp] theorem memRead_nmiPend : (memRead w s).2.nmiPend = s.nmiPend := rfl
@[simp] theorem memRead_irqPend : (memRead w s).2.irqPend = s.irqPend := rfl
@[simp] theorem memRead_mem : (memRead w s).2.mem = s.mem := rfl
@[simp] theorem memRead_cycles : (memRead w s).2.cycles = s.cycles := rfl
@[simp] theorem memRead_illegalOp : (memRead w s).2.illegalOp = s.illegalOp := rfl
@[simp] theorem memRead_bus : (memRead w s).2.bus = s.bus ++ [.read w (s.mem.read w.toNat)] := rfl

end

section
variable (w : Word) (r : Byte) (s : State)

@[simp] theorem memWrite_a : (memWrite w r s).a = s.a := rfl
@[simp] theorem memWrite_x : (memWrite w r s).x = s.x := rfl
@[simp] theorem memWrite_y : (memWrite w r s).y = s.y := rfl
@[simp] theorem memWrite_sp : (memWrite w r s).sp = s.sp := rfl
@[simp] theorem memWrite_pc : (memWrite w r s).pc = s.pc := rfl
@[simp] theorem memWrite_c : (memWrite w r s).c = s.c := rfl
@[simp] theorem memWrite_z : (memWrite w r s).z = s.z := rfl
@[simp] theorem memWrite_i : (memWrite w r s).i = s.i := rfl
@[simp] theorem memWrite_d : (memWrite w r s).d = s.d := rfl
@[simp] theorem memWrite_v : (memWrite w r s).v = s.v := rfl
@[simp] theorem memWrite_n : (memWrite w r s).n = s.n := rfl
@[simp] theorem memWrite_cyc : (memWrite w r s).cyc = s.cyc := rfl
@[simp] theorem memWrite_fsm : (memWrite w r s).fsm = s.fsm := rfl
@[simp] theorem memWrite_nmiPend : (memWrite w r s).nmiPend = s.nmiPend := rfl
@[simp] theorem memWrite_irqPend : (memWrite w r s).irqPend = s.irqPend := rfl
@[simp] theorem memWrite_mem : (memWrite w r s).mem = s.mem.write w.toNat r := rfl
@[simp] theorem memWrite_cycles : (memWrite w r s).cycles = s.cycles := rfl
@[simp] theorem memWrite_illegalOp : (memWrite w r s).illegalOp = s.illegalOp := rfl
@[simp] theorem memWrite_bus : (memWrite w r s).bus = s.bus ++ [.write w r] := rfl

end

section
variable (l h : Word) (s : State)

@[simp] theorem readPair_a : (readPair l h s).2.a = s.a := rfl
@[simp] theorem readPair_x : (readPair l h s).2.x = s.x := rfl
@[simp] theorem readPair_y : (readPair l h s).2.y = s.y := rfl
@[simp] theorem readPair_sp : (readPair l h s).2.sp = s.sp := rfl
@[simp] theorem readPair_pc : (readPair l h s).2.pc = s.pc := rfl
@[simp] theorem readPair_c : (readPair l h s).2.c = s.c := rfl
@[simp] theorem readPair_z : (readPair l h s).2.z = s.z := rfl
@[simp] theorem readPair_i : (readPair l h s).2.i = s.i := rfl
@[simp] theorem readPair_d : (readPair l h s).2.d = s.d := rfl
@[simp] theorem readPair_v : (readPair l h s).2.v = s.v := rfl
@[simp] theorem readPair_n : (readPair l h s).2.n = s.n := rfl
@[simp] theorem readPair_cyc : (readPair l h s).2.cyc = s.cyc := rfl
@[simp] theorem readPair_fsm : (readPair l h s).2.fsm = s.fsm := rfl
@[simp] theorem readPair_nmiPend : (readPair l h s).2.nmiPend = s.nmiPend := rfl
@[simp] theorem readPair_irqPend : (readPair l h s).2.irqPend = s.irqPend := rfl
@[simp] theorem readPair_mem : (readPair l h s).2.mem = s.mem := rfl
@[simp] theorem readPair_cycles : (readPair l h s).2.cycles = s.cycles := rfl
@[simp] theorem readPair_illegalOp : (readPair l h s).2.illegalOp = s.illegalOp := rfl
@[simp] theorem readPair_bus : (readPair l h s).2.bus =
    s.bus ++ [.read l (s.mem.read l.toNat)] ++ [.read h (s.mem.read h.toNat)] := rfl

end

section
variable (r : Byte) (s : State)

@[simp] theorem push_a : (push r s).a = s.a := rfl
@[simp] theorem push_x : (push r s).x = s.x := rfl
@[simp] theorem push_y : (push r s).y = s.y := rfl
@[simp] theorem push_sp : (push r s).sp = s.sp - 1 := rfl
@[simp] theorem push_pc : (push r s).pc = s.pc := rfl
@[simp] theorem push_c : (push r s).c = s.c := rfl
@[simp] theorem push_z : (push r s).z = s.z := rfl
@[simp] theorem push_i : (push r s).i = s.i := rfl
@[simp] theorem push_d : (push r s).d = s.d := rfl
@[simp] theorem push_v : (push r s).v = s.v := rfl
@[simp] theorem push_n : (push r s).n = s.n := rfl
@[simp] theorem push_cyc : (push r s).cyc = s.cyc := rfl
@[simp] theorem push_fsm : (push r s).fsm = s.fsm := rfl
@[simp] theorem push_nmiPend : (push r s).nmiPend = s.nmiPend := rfl
@[simp] theorem push_irqPend : (push r s).irqPend = s.irqPend := rfl
@[simp] theorem push_mem : (push r s).mem = s.mem.write (stackAddr s.sp).toNat r := rfl
@[simp] theorem push_cycles : (push r s).cycles = s.cycles := rfl
@[simp] theorem push_illegalOp : (push r s).illegalOp = s.illegalOp := rfl
@[simp] theorem push_bus : (push r s).bus = s.bus ++ [.write (stackAddr s.sp) r] := rfl

end

section
variable (s : State)

@[simp] theorem pull_a : (pull s).2.a = s.a := rfl
@[simp] theorem pull_x : (pull s).2.x = s.x := rfl
@[simp] theorem pull_y : (pull s).2.y = s.y := rfl
@[simp] theorem pull_sp : (pull s).2.sp = s.sp + 1 := rfl
@[simp] theorem pull_pc : (pull s).2.pc = s.pc := rfl
@[simp] theorem pull_c : (pull s).2.c = s.c := rfl
@[simp] theorem pull_z : (pull s).2.z = s.z := rfl
@[simp] theorem pull_i : (pull s).2.i = s.i := rfl
@[simp] theorem pull_d : (pull s).2.d = s.d := rfl
@[simp] theorem pull_v : (pull s).2.v = s.v := rfl
@[simp] theorem pull_n : (pull s).2.n = s.n := rfl
@[simp] theorem pull_cyc : (pull s).2.cyc = s.cyc := rfl
@[simp] theorem pull_fsm : (pull s).2.fsm = s.fsm := rfl
@[simp] theorem pull_nmiPend : (pull s).2.nmiPend = s.nmiPend := rfl
@[simp] theorem pull_irqPend : (pull s).2.irqPend = s.irqPend := rfl
@[simp] theorem pull_mem : (pull s).2.mem = s.mem := rfl
@[simp] theorem pull_cycles : (pull s).2.cycles = s.cycles := rfl
@[simp] theorem pull_illegalOp : (pull s).2.illegalOp = s.illegalOp := rfl
@[simp] theorem pull_bus : (pull s).2.bus =
    s.bus ++ [.read (stackAddr (s.sp + 1)) (s.mem.read (stackAddr (s.sp + 1)).toNat)] := rfl

end

section
variable (w : Word) (s : State)

@[simp] theorem push16_a : (push16 w s).a = s.a := rfl
@[simp] theorem push16_x : (push16 w s).x = s.x := rfl
@[simp] theorem push16_y : (push16 w s).y = s.y := rfl
@[simp] theorem push16_sp : (push16 w s).sp = s.sp - 1 - 1 := rfl
@[simp] theorem push16_pc : (push16 w s).pc = s.pc := rfl
@[simp] theorem push16_c : (push16 w s).c = s.c := rfl
@[simp] theorem push16_z : (push16 w s).z = s.z := rfl
@[simp] theorem push16_i : (push16 w s).i = s.i := rfl
@[simp] theorem push16_d : (push16 w s).d = s.d := rfl
@[simp] theorem push16_v : (push16 w s).v = s.v := rfl
@[simp] theorem push16_n : (push16 w s).n = s.n := rfl
@[simp] theorem push16_cyc : (push16 w s).cyc = s.cyc := rfl
@[simp] theorem push16_fsm : (push16 w s).fsm = s.fsm := rfl
@[simp] theorem push16_nmiPend : (push16 w s).nmiPend = s.nmiPend := rfl
@[simp] theorem push16_irqPend : (push16 w s).irqPend = s.irqPend := rfl
@[simp] theorem push16_mem : (push16 w s).mem =
    (s.mem.write (stackAddr s.sp).toNat (hi w)).write (stackAddr (s.sp - 1)).toNat (lo w) := rfl
@[simp] theorem push16_cycles : (push16 w s).cycles = s.cycles := rfl
@[simp] theorem push16_illegalOp : (push16 w s).illegalOp = s.illegalOp := rfl
@[simp] theorem push16_bus : (push16 w s).bus =
    s.bus ++ [.write (stackAddr s.sp) (hi w)] ++ [.write (stackAddr (s.sp - 1)) (lo w)] := rfl

end

section
variable (s : State)

@[simp] theorem pull16_a : (pull16 s).2.a = s.a := rfl
@[simp] theorem pull16_x : (pull16 s).2.x = s.x := rfl
@[simp] theorem pull16_y : (pull16 s).2.y = s.y := rfl
@[simp] theorem pull16_sp : (pull16 s).2.sp = s.sp + 1 + 1 := rfl
@[simp] theorem pull16_pc : (pull16 s).2.pc = s.pc := rfl
@[simp] theorem pull16_c : (pull16 s).2.c = s.c := rfl
@[simp] theorem pull16_z : (pull16 s).2.z = s.z := rfl
@[simp] theorem pull16_i : (pull16 s).2.i = s.i := rfl
@[simp] theorem pull16_d : (pull16 s).2.d = s.d := rfl
@[simp] theorem pull16_v : (pull16 s).2.v = s.v := rfl
@[simp] theorem pull16_n : (pull16 s).2.n = s.n := rfl
@[simp] theorem pull16_cyc : (pull16 s).2.cyc = s.cyc := rfl
@[simp] theorem pull16_fsm : (pull16 s).2.fsm = s.fsm := rfl
@[simp] theorem pull16_nmiPend : (pull16 s).2.nmiPend = s.nmiPend := rfl
@[simp] theorem pull16_irqPend : (pull16 s).2.irqPend = s.irqPend := rfl
@[simp] theorem pull16_mem : (pull16 s).2.mem = s.mem := rfl
@[simp] theorem pull16_cycles : (pull16 s).2.cycles = s.cycles := rfl
@[simp] theorem pull16_illegalOp : (pull16 s).2.illegalOp = s.illegalOp := rfl
@[simp] theorem pull16_bus : (pull16 s).2.bus =
    s.bus ++ [.read (stackAddr (s.sp + 1)) (s.mem.read (stackAddr (s.sp + 1)).toNat)] ++
      [.read (stackAddr (s.sp + 1 + 1)) (s.mem.read (stackAddr (s.sp + 1 + 1)).toNat)] := rfl

end

section
variable (k : Nat) (s : State)

@[simp] theorem charge_a : (charge k s).a = s.a := rfl
@[simp] theorem charge_x : (charge k s).x = s.x := rfl
@[simp] theorem charge_y : (charge k s).y = s.y := rfl
@[simp] theorem charge_sp : (charge k s).sp = s.sp := rfl
@[simp] theorem charge_pc : (charge k s).pc = s.pc := rfl
@[simp] theorem charge_c : (charge k s).c = s.c := rfl
@[simp] theorem charge_z : (charge k s).z = s.z := rfl
@[simp] theorem charge_i : (charge k s).i = s.i := rfl
@[simp] theorem charge_d : (charge k s).d = s.d := rfl
@[simp] theorem charge_v : (charge k s).v = s.v := rfl
@[simp] theorem charge_n : (charge k s).n = s.n := rfl
@[simp] theorem charge_cyc : (charge k s).cyc = s.cyc + k := rfl
@[simp] theorem charge_fsm : (charge k s).fsm = s.fsm := rfl
@[simp] theorem charge_nmiPend : (charge k s).nmiPend = s.nmiPend := rfl
@[simp] theorem charge_irqPend : (charge k s).irqPend = s.irqPend := rfl
@[simp] theorem charge_mem : (charge k s).mem = s.mem := rfl
@[simp] theorem charge_cycles : (charge k s).cycles = k := rfl
@[simp] theorem charge_illegalOp : (charge k s).illegalOp = s.illegalOp := rfl
@[simp] theorem charge_bus : (charge k s).bus = s.bus := rfl

end

section
variable (e : Descriptor) (k : Nat) (w : Word) (s : State)

@[simp] theorem retireAt_a : (retireAt e k w s).a = s.a := rfl
@[simp] theorem retireAt_x : (retireAt e k w s).x = s.x := rfl
@[simp] theorem retireAt_y : (retireAt e k w s).y = s.y := rfl
@[simp] theorem retireAt_sp : (retireAt e k w s).sp = s.sp := rfl
@[simp] theorem retireAt_pc : (retireAt e k w s).pc = w := rfl
@[simp] theorem retireAt_c : (retireAt e k w s).c = s.c := rfl
@[simp] theorem retireAt_z : (retireAt e k w s).z = s.z := rfl
@[simp] theorem retireAt_i : (retireAt e k w s).i = s.i := rfl
@[simp] theorem retireAt_d : (retireAt e k w s).d = s.d := rfl
@[simp] theorem retireAt_v : (retireAt e k w s).v = s.v := rfl
@[simp] theorem retireAt_n : (retireAt e k w s).n = s.n := rfl
@[simp] theorem retireAt_cyc : (retireAt e k w s).cyc = s.cyc + (e.cycles + k) := rfl
@[simp] theorem retireAt_fsm : (retireAt e k w s).fsm = s.fsm := rfl
@[simp] theorem retireAt_nmiPend : (retireAt e k w s).nmiPend = s.nmiPend := rfl
@[simp] theorem retireAt_irqPend : (retireAt e k w s).irqPend = s.irqPend := rfl
@[simp] theorem retireAt_mem : (retireAt e k w s).mem = s.mem := rfl
@[simp] theorem retireAt_cycles : (retireAt e k w s).cycles = e.cycles + k := rfl
@[simp] theorem retireAt_illegalOp : (retireAt e k w s).illegalOp = (e.mnemonic == .ILL) := rfl
@[simp] theorem retireAt_bus : (retireAt e k w s).bus = s.bus := rfl

end

section
variable (s : State)

@[simp] theorem clearOutputs_a : (clearOutputs s).a = s.a := rfl
@[simp] theorem clearOutputs_x : (clearOutputs s).x = s.x := rfl
@[simp] theorem clearOutputs_y : (clearOutputs s).y = s.y := rfl
@[simp] theorem clearOutputs_sp : (clearOutputs s).sp = s.sp := rfl
@[simp] theorem clearOutputs_pc : (clearOutputs s).pc = s.pc := rfl
@[simp] theorem clearOutputs_c : (clearOutputs s).c = s.c := rfl
@[simp] theorem clearOutputs_z : (clearOutputs s).z = s.z := rfl
@[simp] theorem clearOutputs_i : (clearOutputs s).i = s.i := rfl
@[simp] theorem clearOutputs_d : (clearOutputs s).d = s.d := rfl
@[simp] theorem clearOutputs_v : (clearOutputs s).v = s.v := rfl
@[simp] theorem clearOutputs_n : (clearOutputs s).n = s.n := rfl
@[simp] theorem clearOutputs_cyc : (clearOutputs s).cyc = s.cyc := rfl
@[simp] theorem clearOutputs_fsm : (clearOutputs s).fsm = s.fsm := rfl
@[simp] theorem clearOutputs_nmiPend : (clearOutputs s).nmiPend = s.nmiPend := rfl
@[simp] theorem clearOutputs_irqPend : (clearOutputs s).irqPend = s.irqPend := rfl
@[simp] theorem clearOutputs_mem : (clearOutputs s).mem = s.mem := rfl
@[simp] theorem clearOutputs_cycles : (clearOutputs s).cycles = 0 := rfl
@[simp] theorem clearOutputs_illegalOp : (clearOutputs s).illegalOp = false := rfl
@[simp] theorem clearOutputs_bus : (clearOutputs s).bus = [] := rfl

end

section
variable (w l h : Word) (s : State)

@[simp] theorem memRead_fst : (memRead w s).1 = s.mem.read w.toNat := rfl
@[simp] theorem readPair_fst : (readPair l h s).1 = word (s.mem.read h.toNat) (s.mem.read l.toNat) := rfl
@[simp] theorem pull_fst : (pull s).1 = s.mem.read (stackAddr (s.sp + 1)).toNat := rfl
@[simp] theorem pull16_fst : (pull16 s).1 =
    word (s.mem.read (stackAddr (s.sp + 1 + 1)).toNat) (s.mem.read (stackAddr (s.sp + 1)).toNat) := rfl
@[simp] theorem returnFromInterrupt_fst : (returnFromInterrupt s).1 =
    word (s.mem.read (stackAddr (s.sp + 1 + 1 + 1)).toNat) (s.mem.read (stackAddr (s.sp + 1 + 1)).toNat) := rfl

end

end Sys2Proof.Machine
end

