-- ==== Sys2Proof/Laws/Table.lean ====
section
/-! SUPPORT. What the opcode table holds: the descriptor of each documented byte, in byte order, and that lookup
finds every row of the table. -/

set_option Elab.async false

namespace Sys2Proof

/-- Lookup finds each of the 151 documented rows. -/
theorem lookup_of_mem : ∀ r ∈ opcodeTable, lookup r.opcode = r.descriptor := by decide +kernel

theorem opcodeTable_length : opcodeTable.length = 151 := by decide +kernel

/-- The rows of a byte that the table does not hold. -/
theorem lookupRow_undocumented {op : Byte} (h : op ∈ undocumentedOpcodes) :
    lookupRow op = illegalRow op .nop1 := by
  have hnone : ∀ o ∈ undocumentedOpcodes, (opcodeGrid.getD (o.toNat / 16) []).find? (fun r => r.opcode == o) = none := by
    decide +kernel
  rw [lookupRow, hnone op h]
  rfl

@[simp] theorem lookup_brk : lookup 0x00#8 = ⟨.BRK, .implied, 7, 1, false⟩ := by decide +kernel
@[simp] theorem lookup_oraIzx : lookup 0x01#8 = ⟨.ORA, .indexedIndirect, 6, 2, false⟩ := by decide +kernel
@[simp] theorem lookup_oraZp : lookup 0x05#8 = ⟨.ORA, .zeroPage, 3, 2, false⟩ := by decide +kernel
@[simp] theorem lookup_aslZp : lookup 0x06#8 = ⟨.ASL, .zeroPage, 5, 2, false⟩ := by decide +kernel
@[simp] theorem lookup_php : lookup 0x08#8 = ⟨.PHP, .implied, 3, 1, false⟩ := by decide +kernel
@[simp] theorem lookup_oraImm : lookup 0x09#8 = ⟨.ORA, .immediate, 2, 2, false⟩ := by decide +kernel
@[simp] theorem lookup_aslAcc : lookup 0x0A#8 = ⟨.ASL, .accumulator, 2, 1, false⟩ := by decide +kernel
@[simp] theorem lookup_oraAbs : lookup 0x0D#8 = ⟨.ORA, .absolute, 4, 3, false⟩ := by decide +kernel
@[simp] theorem lookup_aslAbs : lookup 0x0E#8 = ⟨.ASL, .absolute, 6, 3, false⟩ := by decide +kernel
@[simp] theorem lookup_bpl : lookup 0x10#8 = ⟨.BPL, .relative, 2, 2, false⟩ := by decide +kernel
@[simp] theorem lookup_oraIzy : lookup 0x11#8 = ⟨.ORA, .indirectIndexed, 5, 2, true⟩ := by decide +kernel
@[simp] theorem lookup_oraZpx : lookup 0x15#8 = ⟨.ORA, .zeroPageX, 4, 2, false⟩ := by decide +kernel
@[simp] theorem lookup_aslZpx : lookup 0x16#8 = ⟨.ASL, .zeroPageX, 6, 2, false⟩ := by decide +kernel
@[simp] theorem lookup_clc : lookup 0x18#8 = ⟨.CLC, .implied, 2, 1, false⟩ := by decide +kernel
@[simp] theorem lookup_oraAby : lookup 0x19#8 = ⟨.ORA, .absoluteY, 4, 3, true⟩ := by decide +kernel
@[simp] theorem lookup_oraAbx : lookup 0x1D#8 = ⟨.ORA, .absoluteX, 4, 3, true⟩ := by decide +kernel
@[simp] theorem lookup_aslAbx : lookup 0x1E#8 = ⟨.ASL, .absoluteX, 7, 3, false⟩ := by decide +kernel
@[simp] theorem lookup_jsr : lookup 0x20#8 = ⟨.JSR, .absolute, 6, 3, false⟩ := by decide +kernel
@[simp] theorem lookup_andIzx : lookup 0x21#8 = ⟨.AND, .indexedIndirect, 6, 2, false⟩ := by decide +kernel
@[simp] theorem lookup_bitZp : lookup 0x24#8 = ⟨.BIT, .zeroPage, 3, 2, false⟩ := by decide +kernel
@[simp] theorem lookup_andZp : lookup 0x25#8 = ⟨.AND, .zeroPage, 3, 2, false⟩ := by decide +kernel
@[simp] theorem lookup_rolZp : lookup 0x26#8 = ⟨.ROL, .zeroPage, 5, 2, false⟩ := by decide +kernel
@[simp] theorem lookup_plp : lookup 0x28#8 = ⟨.PLP, .implied, 4, 1, false⟩ := by decide +kernel
@[simp] theorem lookup_andImm : lookup 0x29#8 = ⟨.AND, .immediate, 2, 2, false⟩ := by decide +kernel
@[simp] theorem lookup_rolAcc : lookup 0x2A#8 = ⟨.ROL, .accumulator, 2, 1, false⟩ := by decide +kernel
@[simp] theorem lookup_bitAbs : lookup 0x2C#8 = ⟨.BIT, .absolute, 4, 3, false⟩ := by decide +kernel
@[simp] theorem lookup_andAbs : lookup 0x2D#8 = ⟨.AND, .absolute, 4, 3, false⟩ := by decide +kernel
@[simp] theorem lookup_rolAbs : lookup 0x2E#8 = ⟨.ROL, .absolute, 6, 3, false⟩ := by decide +kernel
@[simp] theorem lookup_bmi : lookup 0x30#8 = ⟨.BMI, .relative, 2, 2, false⟩ := by decide +kernel
@[simp] theorem lookup_andIzy : lookup 0x31#8 = ⟨.AND, .indirectIndexed, 5, 2, true⟩ := by decide +kernel
@[simp] theorem lookup_andZpx : lookup 0x35#8 = ⟨.AND, .zeroPageX, 4, 2, false⟩ := by decide +kernel
@[simp] theorem lookup_rolZpx : lookup 0x36#8 = ⟨.ROL, .zeroPageX, 6, 2, false⟩ := by decide +kernel
@[simp] theorem lookup_sec : lookup 0x38#8 = ⟨.SEC, .implied, 2, 1, false⟩ := by decide +kernel
@[simp] theorem lookup_andAby : lookup 0x39#8 = ⟨.AND, .absoluteY, 4, 3, true⟩ := by decide +kernel
@[simp] theorem lookup_andAbx : lookup 0x3D#8 = ⟨.AND, .absoluteX, 4, 3, true⟩ := by decide +kernel
@[simp] theorem lookup_rolAbx : lookup 0x3E#8 = ⟨.ROL, .absoluteX, 7, 3, false⟩ := by decide +kernel
@[simp] theorem lookup_rti : lookup 0x40#8 = ⟨.RTI, .implied, 6, 1, false⟩ := by decide +kernel
@[simp] theorem lookup_eorIzx : lookup 0x41#8 = ⟨.EOR, .indexedIndirect, 6, 2, false⟩ := by decide +kernel
@[simp] theorem lookup_eorZp : lookup 0x45#8 = ⟨.EOR, .zeroPage, 3, 2, false⟩ := by decide +kernel
@[simp] theorem lookup_lsrZp : lookup 0x46#8 = ⟨.LSR, .zeroPage, 5, 2, false⟩ := by decide +kernel
@[simp] theorem lookup_pha : lookup 0x48#8 = ⟨.PHA, .implied, 3, 1, false⟩ := by decide +kernel
@[simp] theorem lookup_eorImm : lookup 0x49#8 = ⟨.EOR, .immediate, 2, 2, false⟩ := by decide +kernel
@[simp] theorem lookup_lsrAcc : lookup 0x4A#8 = ⟨.LSR, .accumulator, 2, 1, false⟩ := by decide +kernel
@[simp] theorem lookup_jmpAbs : lookup 0x4C#8 = ⟨.JMP, .absolute, 3, 3, false⟩ := by decide +kernel
@[simp] theorem lookup_eorAbs : lookup 0x4D#8 = ⟨.EOR, .absolute, 4, 3, false⟩ := by decide +kernel
@[simp] theorem lookup_lsrAbs : lookup 0x4E#8 = ⟨.LSR, .absolute, 6, 3, false⟩ := by decide +kernel
@[simp] theorem lookup_bvc : lookup 0x50#8 = ⟨.BVC, .relative, 2, 2, false⟩ := by decide +kernel
@[simp] theorem lookup_eorIzy : lookup 0x51#8 = ⟨.EOR, .indirectIndexed, 5, 2, true⟩ := by decide +kernel
@[simp] theorem lookup_eorZpx : lookup 0x55#8 = ⟨.EOR, .zeroPageX, 4, 2, false⟩ := by decide +kernel
@[simp] theorem lookup_lsrZpx : lookup 0x56#8 = ⟨.LSR, .zeroPageX, 6, 2, false⟩ := by decide +kernel
@[simp] theorem lookup_cli : lookup 0x58#8 = ⟨.CLI, .implied, 2, 1, false⟩ := by decide +kernel
@[simp] theorem lookup_eorAby : lookup 0x59#8 = ⟨.EOR, .absoluteY, 4, 3, true⟩ := by decide +kernel
@[simp] theorem lookup_eorAbx : lookup 0x5D#8 = ⟨.EOR, .absoluteX, 4, 3, true⟩ := by decide +kernel
@[simp] theorem lookup_lsrAbx : lookup 0x5E#8 = ⟨.LSR, .absoluteX, 7, 3, false⟩ := by decide +kernel
@[simp] theorem lookup_rts : lookup 0x60#8 = ⟨.RTS, .implied, 6, 1, false⟩ := by decide +kernel
@[simp] theorem lookup_adcIzx : lookup 0x61#8 = ⟨.ADC, .indexedIndirect, 6, 2, false⟩ := by decide +kernel
@[simp] theorem lookup_adcZp : lookup 0x65#8 = ⟨.ADC, .zeroPage, 3, 2, false⟩ := by decide +kernel
@[simp] theorem lookup_rorZp : lookup 0x66#8 = ⟨.ROR, .zeroPage, 5, 2, false⟩ := by decide +kernel
@[simp] theorem lookup_pla : lookup 0x68#8 = ⟨.PLA, .implied, 4, 1, false⟩ := by decide +kernel
@[simp] theorem lookup_adcImm : lookup 0x69#8 = ⟨.ADC, .immediate, 2, 2, false⟩ := by decide +kernel
@[simp] theorem lookup_rorAcc : lookup 0x6A#8 = ⟨.ROR, .accumulator, 2, 1, false⟩ := by decide +kernel
@[simp] theorem lookup_jmpInd : lookup 0x6C#8 = ⟨.JMP, .indirect, 5, 3, false⟩ := by decide +kernel
@[simp] theorem lookup_adcAbs : lookup 0x6D#8 = ⟨.ADC, .absolute, 4, 3, false⟩ := by decide +kernel
@[simp] theorem lookup_rorAbs : lookup 0x6E#8 = ⟨.ROR, .absolute, 6, 3, false⟩ := by decide +kernel
@[simp] theorem lookup_bvs : lookup 0x70#8 = ⟨.BVS, .relative, 2, 2, false⟩ := by decide +kernel
@[simp] theorem lookup_adcIzy : lookup 0x71#8 = ⟨.ADC, .indirectIndexed, 5, 2, true⟩ := by decide +kernel
@[simp] theorem lookup_adcZpx : lookup 0x75#8 = ⟨.ADC, .zeroPageX, 4, 2, false⟩ := by decide +kernel
@[simp] theorem lookup_rorZpx : lookup 0x76#8 = ⟨.ROR, .zeroPageX, 6, 2, false⟩ := by decide +kernel
@[simp] theorem lookup_sei : lookup 0x78#8 = ⟨.SEI, .implied, 2, 1, false⟩ := by decide +kernel
@[simp] theorem lookup_adcAby : lookup 0x79#8 = ⟨.ADC, .absoluteY, 4, 3, true⟩ := by decide +kernel
@[simp] theorem lookup_adcAbx : lookup 0x7D#8 = ⟨.ADC, .absoluteX, 4, 3, true⟩ := by decide +kernel
@[simp] theorem lookup_rorAbx : lookup 0x7E#8 = ⟨.ROR, .absoluteX, 7, 3, false⟩ := by decide +kernel
@[simp] theorem lookup_staIzx : lookup 0x81#8 = ⟨.STA, .indexedIndirect, 6, 2, false⟩ := by decide +kernel
@[simp] theorem lookup_styZp : lookup 0x84#8 = ⟨.STY, .zeroPage, 3, 2, false⟩ := by decide +kernel
@[simp] theorem lookup_staZp : lookup 0x85#8 = ⟨.STA, .zeroPage, 3, 2, false⟩ := by decide +kernel
@[simp] theorem lookup_stxZp : lookup 0x86#8 = ⟨.STX, .zeroPage, 3, 2, false⟩ := by decide +kernel
@[simp] theorem lookup_dey : lookup 0x88#8 = ⟨.DEY, .implied, 2, 1, false⟩ := by decide +kernel
@[simp] theorem lookup_txa : lookup 0x8A#8 = ⟨.TXA, .implied, 2, 1, false⟩ := by decide +kernel
@[simp] theorem lookup_styAbs : lookup 0x8C#8 = ⟨.STY, .absolute, 4, 3, false⟩ := by decide +kernel
@[simp] theorem lookup_staAbs : lookup 0x8D#8 = ⟨.STA, .absolute, 4, 3, false⟩ := by decide +kernel
@[simp] theorem lookup_stxAbs : lookup 0x8E#8 = ⟨.STX, .absolute, 4, 3, false⟩ := by decide +kernel
@[simp] theorem lookup_bcc : lookup 0x90#8 = ⟨.BCC, .relative, 2, 2, false⟩ := by decide +kernel
@[simp] theorem lookup_staIzy : lookup 0x91#8 = ⟨.STA, .indirectIndexed, 6, 2, false⟩ := by decide +kernel
@[simp] theorem lookup_styZpx : lookup 0x94#8 = ⟨.STY, .zeroPageX, 4, 2, false⟩ := by decide +kernel
@[simp] theorem lookup_staZpx : lookup 0x95#8 = ⟨.STA, .zeroPageX, 4, 2, false⟩ := by decide +kernel
@[simp] theorem lookup_stxZpy : lookup 0x96#8 = ⟨.STX, .zeroPageY, 4, 2, false⟩ := by decide +kernel
@[simp] theorem lookup_tya : lookup 0x98#8 = ⟨.TYA, .implied, 2, 1, false⟩ := by decide +kernel
@[simp] theorem lookup_staAby : lookup 0x99#8 = ⟨.STA, .absoluteY, 5, 3, false⟩ := by decide +kernel
@[simp] theorem lookup_txs : lookup 0x9A#8 = ⟨.TXS, .implied, 2, 1, false⟩ := by decide +kernel
@[simp] theorem lookup_staAbx : lookup 0x9D#8 = ⟨.STA, .absoluteX, 5, 3, false⟩ := by decide +kernel
@[simp] theorem lookup_ldyImm : lookup 0xA0#8 = ⟨.LDY, .immediate, 2, 2, false⟩ := by decide +kernel
@[simp] theorem lookup_ldaIzx : lookup 0xA1#8 = ⟨.LDA, .indexedIndirect, 6, 2, false⟩ := by decide +kernel
@[simp] theorem lookup_ldxImm : lookup 0xA2#8 = ⟨.LDX, .immediate, 2, 2, false⟩ := by decide +kernel
@[simp] theorem lookup_ldyZp : lookup 0xA4#8 = ⟨.LDY, .zeroPage, 3, 2, false⟩ := by decide +kernel
@[simp] theorem lookup_ldaZp : lookup 0xA5#8 = ⟨.LDA, .zeroPage, 3, 2, false⟩ := by decide +kernel
@[simp] theorem lookup_ldxZp : lookup 0xA6#8 = ⟨.LDX, .zeroPage, 3, 2, false⟩ := by decide +kernel
@[simp] theorem lookup_tay : lookup 0xA8#8 = ⟨.TAY, .implied, 2, 1, false⟩ := by decide +kernel
@[simp] theorem lookup_ldaImm : lookup 0xA9#8 = ⟨.LDA, .immediate, 2, 2, false⟩ := by decide +kernel
@[simp] theorem lookup_tax : lookup 0xAA#8 = ⟨.TAX, .implied, 2, 1, false⟩ := by decide +kernel
@[simp] theorem lookup_ldyAbs : lookup 0xAC#8 = ⟨.LDY, .absolute, 4, 3, false⟩ := by decide +kernel
@[simp] theorem lookup_ldaAbs : lookup 0xAD#8 = ⟨.LDA, .absolute, 4, 3, false⟩ := by decide +kernel
@[simp] theorem lookup_ldxAbs : lookup 0xAE#8 = ⟨.LDX, .absolute, 4, 3, false⟩ := by decide +kernel
@[simp] theorem lookup_bcs : lookup 0xB0#8 = ⟨.BCS, .relative, 2, 2, false⟩ := by decide +kernel
@[simp] theorem lookup_ldaIzy : lookup 0xB1#8 = ⟨.LDA, .indirectIndexed, 5, 2, true⟩ := by decide +kernel
@[simp] theorem lookup_ldyZpx : lookup 0xB4#8 = ⟨.LDY, .zeroPageX, 4, 2, false⟩ := by decide +kernel
@[simp] theorem lookup_ldaZpx : lookup 0xB5#8 = ⟨.LDA, .zeroPageX, 4, 2, false⟩ := by decide +kernel
@[simp] theorem lookup_ldxZpy : lookup 0xB6#8 = ⟨.LDX, .zeroPageY, 4, 2, false⟩ := by decide +kernel
@[simp] theorem lookup_clv : lookup 0xB8#8 = ⟨.CLV, .implied, 2, 1, false⟩ := by decide +kernel
@[simp] theorem lookup_ldaAby : lookup 0xB9#8 = ⟨.LDA, .absoluteY, 4, 3, true⟩ := by decide +kernel
@[simp] theorem lookup_tsx : lookup 0xBA#8 = ⟨.TSX, .implied, 2, 1, false⟩ := by decide +kernel
@[simp] theorem lookup_ldyAbx : lookup 0xBC#8 = ⟨.LDY, .absoluteX, 4, 3, true⟩ := by decide +kernel
@[simp] theorem lookup_ldaAbx : lookup 0xBD#8 = ⟨.LDA, .absoluteX, 4, 3, true⟩ := by decide +kernel
@[simp] theorem lookup_ldxAby : lookup 0xBE#8 = ⟨.LDX, .absoluteY, 4, 3, true⟩ := by decide +kernel
@[simp] theorem lookup_cpyImm : lookup 0xC0#8 = ⟨.CPY, .immediate, 2, 2, false⟩ := by decide +kernel
@[simp] theorem lookup_cmpIzx : lookup 0xC1#8 = ⟨.CMP, .indexedIndirect, 6, 2, false⟩ := by decide +kernel
@[simp] theorem lookup_cpyZp : lookup 0xC4#8 = ⟨.CPY, .zeroPage, 3, 2, false⟩ := by decide +kernel
@[simp] theorem lookup_cmpZp : lookup 0xC5#8 = ⟨.CMP, .zeroPage, 3, 2, false⟩ := by decide +kernel
@[simp] theorem lookup_decZp : lookup 0xC6#8 = ⟨.DEC, .zeroPage, 5, 2, false⟩ := by decide +kernel
@[simp] theorem lookup_iny : lookup 0xC8#8 = ⟨.INY, .implied, 2, 1, false⟩ := by decide +kernel
@[simp] theorem lookup_cmpImm : lookup 0xC9#8 = ⟨.CMP, .immediate, 2, 2, false⟩ := by decide +kernel
@[simp] theorem lookup_dex : lookup 0xCA#8 = ⟨.DEX, .implied, 2, 1, false⟩ := by decide +kernel
@[simp] theorem lookup_cpyAbs : lookup 0xCC#8 = ⟨.CPY, .absolute, 4, 3, false⟩ := by decide +kernel
@[simp] theorem lookup_cmpAbs : lookup 0xCD#8 = ⟨.CMP, .absolute, 4, 3, false⟩ := by decide +kernel
@[simp] theorem lookup_decAbs : lookup 0xCE#8 = ⟨.DEC, .absolute, 6, 3, false⟩ := by decide +kernel
@[simp] theorem lookup_bne : lookup 0xD0#8 = ⟨.BNE, .relative, 2, 2, false⟩ := by decide +kernel
@[simp] theorem lookup_cmpIzy : lookup 0xD1#8 = ⟨.CMP, .indirectIndexed, 5, 2, true⟩ := by decide +kernel
@[simp] theorem lookup_cmpZpx : lookup 0xD5#8 = ⟨.CMP, .zeroPageX, 4, 2, false⟩ := by decide +kernel
@[simp] theorem lookup_decZpx : lookup 0xD6#8 = ⟨.DEC, .zeroPageX, 6, 2, false⟩ := by decide +kernel
@[simp] theorem lookup_cld : lookup 0xD8#8 = ⟨.CLD, .implied, 2, 1, false⟩ := by decide +kernel
@[simp] theorem lookup_cmpAby : lookup 0xD9#8 = ⟨.CMP, .absoluteY, 4, 3, true⟩ := by decide +kernel
@[simp] theorem lookup_cmpAbx : lookup 0xDD#8 = ⟨.CMP, .absoluteX, 4, 3, true⟩ := by decide +kernel
@[simp] theorem lookup_decAbx : lookup 0xDE#8 = ⟨.DEC, .absoluteX, 7, 3, false⟩ := by decide +kernel
@[simp] theorem lookup_cpxImm : lookup 0xE0#8 = ⟨.CPX, .immediate, 2, 2, false⟩ := by decide +kernel
@[simp] theorem lookup_sbcIzx : lookup 0xE1#8 = ⟨.SBC, .indexedIndirect, 6, 2, false⟩ := by decide +kernel
@[simp] theorem lookup_cpxZp : lookup 0xE4#8 = ⟨.CPX, .zeroPage, 3, 2, false⟩ := by decide +kernel
@[simp] theorem lookup_sbcZp : lookup 0xE5#8 = ⟨.SBC, .zeroPage, 3, 2, false⟩ := by decide +kernel
@[simp] theorem lookup_incZp : lookup 0xE6#8 = ⟨.INC, .zeroPage, 5, 2, false⟩ := by decide +kernel
@[simp] theorem lookup_inx : lookup 0xE8#8 = ⟨.INX, .implied, 2, 1, false⟩ := by decide +kernel
@[simp] theorem lookup_sbcImm : lookup 0xE9#8 = ⟨.SBC, .immediate, 2, 2, false⟩ := by decide +kernel
@[simp] theorem lookup_nop : lookup 0xEA#8 = ⟨.NOP, .implied, 2, 1, false⟩ := by decide +kernel
@[simp] theorem lookup_cpxAbs : lookup 0xEC#8 = ⟨.CPX, .absolute, 4, 3, false⟩ := by decide +kernel
@[simp] theorem lookup_sbcAbs : lookup 0xED#8 = ⟨.SBC, .absolute, 4, 3, false⟩ := by decide +kernel
@[simp] theorem lookup_incAbs : lookup 0xEE#8 = ⟨.INC, .absolute, 6, 3, false⟩ := by decide +kernel
@[simp] theorem lookup_beq : lookup 0xF0#8 = ⟨.BEQ, .relative, 2, 2, false⟩ := by decide +kernel
@[simp] theorem lookup_sbcIzy : lookup 0xF1#8 = ⟨.SBC, .indirectIndexed, 5, 2, true⟩ := by decide +kernel
@[simp] theorem lookup_sbcZpx : lookup 0xF5#8 = ⟨.SBC, .zeroPageX, 4, 2, false⟩ := by decide +kernel
@[simp] theorem lookup_incZpx : lookup 0xF6#8 = ⟨.INC, .zeroPageX, 6, 2, false⟩ := by decide +kernel
@[simp] theorem lookup_sed : lookup 0xF8#8 = ⟨.SED, .implied, 2, 1, false⟩ := by decide +kernel
@[simp] theorem lookup_sbcAby : lookup 0xF9#8 = ⟨.SBC, .absoluteY, 4, 3, true⟩ := by decide +kernel
@[simp] theorem lookup_sbcAbx : lookup 0xFD#8 = ⟨.SBC, .absoluteX, 4, 3, true⟩ := by decide +kernel
@[simp] theorem lookup_incAbx : lookup 0xFE#8 = ⟨.INC, .absoluteX, 7, 3, false⟩ := by decide +kernel

/-! How the operand bytes of each documented byte make its instruction (R81, R86). -/

@[simp] theorem make_brk : (lookupRow 0x00#8).make = .f1 .brk := rfl
@[simp] theorem make_oraIzx : (lookupRow 0x01#8).make = .f2 .oraIzx := rfl
@[simp] theorem make_oraZp : (lookupRow 0x05#8).make = .f2 .oraZp := rfl
@[simp] theorem make_aslZp : (lookupRow 0x06#8).make = .f2 .aslZp := rfl
@[simp] theorem make_php : (lookupRow 0x08#8).make = .f1 .php := rfl
@[simp] theorem make_oraImm : (lookupRow 0x09#8).make = .f2 .oraImm := rfl
@[simp] theorem make_aslAcc : (lookupRow 0x0A#8).make = .f1 .aslAcc := rfl
@[simp] theorem make_oraAbs : (lookupRow 0x0D#8).make = .f3 .oraAbs := rfl
@[simp] theorem make_aslAbs : (lookupRow 0x0E#8).make = .f3 .aslAbs := rfl
@[simp] theorem make_bpl : (lookupRow 0x10#8).make = .f2 .bpl := rfl
@[simp] theorem make_oraIzy : (lookupRow 0x11#8).make = .f2 .oraIzy := rfl
@[simp] theorem make_oraZpx : (lookupRow 0x15#8).make = .f2 .oraZpx := rfl
@[simp] theorem make_aslZpx : (lookupRow 0x16#8).make = .f2 .aslZpx := rfl
@[simp] theorem make_clc : (lookupRow 0x18#8).make = .f1 .clc := rfl
@[simp] theorem make_oraAby : (lookupRow 0x19#8).make = .f3 .oraAby := rfl
@[simp] theorem make_oraAbx : (lookupRow 0x1D#8).make = .f3 .oraAbx := rfl
@[simp] theorem make_aslAbx : (lookupRow 0x1E#8).make = .f3 .aslAbx := rfl
@[simp] theorem make_jsr : (lookupRow 0x20#8).make = .f3 .jsr := rfl
@[simp] theorem make_andIzx : (lookupRow 0x21#8).make = .f2 .andIzx := rfl
@[simp] theorem make_bitZp : (lookupRow 0x24#8).make = .f2 .bitZp := rfl
@[simp] theorem make_andZp : (lookupRow 0x25#8).make = .f2 .andZp := rfl
@[simp] theorem make_rolZp : (lookupRow 0x26#8).make = .f2 .rolZp := rfl
@[simp] theorem make_plp : (lookupRow 0x28#8).make = .f1 .plp := rfl
@[simp] theorem make_andImm : (lookupRow 0x29#8).make = .f2 .andImm := rfl
@[simp] theorem make_rolAcc : (lookupRow 0x2A#8).make = .f1 .rolAcc := rfl
@[simp] theorem make_bitAbs : (lookupRow 0x2C#8).make = .f3 .bitAbs := rfl
@[simp] theorem make_andAbs : (lookupRow 0x2D#8).make = .f3 .andAbs := rfl
@[simp] theorem make_rolAbs : (lookupRow 0x2E#8).make = .f3 .rolAbs := rfl
@[simp] theorem make_bmi : (lookupRow 0x30#8).make = .f2 .bmi := rfl
@[simp] theorem make_andIzy : (lookupRow 0x31#8).make = .f2 .andIzy := rfl
@[simp] theorem make_andZpx : (lookupRow 0x35#8).make = .f2 .andZpx := rfl
@[simp] theorem make_rolZpx : (lookupRow 0x36#8).make = .f2 .rolZpx := rfl
@[simp] theorem make_sec : (lookupRow 0x38#8).make = .f1 .sec := rfl
@[simp] theorem make_andAby : (lookupRow 0x39#8).make = .f3 .andAby := rfl
@[simp] theorem make_andAbx : (lookupRow 0x3D#8).make = .f3 .andAbx := rfl
@[simp] theorem make_rolAbx : (lookupRow 0x3E#8).make = .f3 .rolAbx := rfl
@[simp] theorem make_rti : (lookupRow 0x40#8).make = .f1 .rti := rfl
@[simp] theorem make_eorIzx : (lookupRow 0x41#8).make = .f2 .eorIzx := rfl
@[simp] theorem make_eorZp : (lookupRow 0x45#8).make = .f2 .eorZp := rfl
@[simp] theorem make_lsrZp : (lookupRow 0x46#8).make = .f2 .lsrZp := rfl
@[simp] theorem make_pha : (lookupRow 0x48#8).make = .f1 .pha := rfl
@[simp] theorem make_eorImm : (lookupRow 0x49#8).make = .f2 .eorImm := rfl
@[simp] theorem make_lsrAcc : (lookupRow 0x4A#8).make = .f1 .lsrAcc := rfl
@[simp] theorem make_jmpAbs : (lookupRow 0x4C#8).make = .f3 .jmpAbs := rfl
@[simp] theorem make_eorAbs : (lookupRow 0x4D#8).make = .f3 .eorAbs := rfl
@[simp] theorem make_lsrAbs : (lookupRow 0x4E#8).make = .f3 .lsrAbs := rfl
@[simp] theorem make_bvc : (lookupRow 0x50#8).make = .f2 .bvc := rfl
@[simp] theorem make_eorIzy : (lookupRow 0x51#8).make = .f2 .eorIzy := rfl
@[simp] theorem make_eorZpx : (lookupRow 0x55#8).make = .f2 .eorZpx := rfl
@[simp] theorem make_lsrZpx : (lookupRow 0x56#8).make = .f2 .lsrZpx := rfl
@[simp] theorem make_cli : (lookupRow 0x58#8).make = .f1 .cli := rfl
@[simp] theorem make_eorAby : (lookupRow 0x59#8).make = .f3 .eorAby := rfl
@[simp] theorem make_eorAbx : (lookupRow 0x5D#8).make = .f3 .eorAbx := rfl
@[simp] theorem make_lsrAbx : (lookupRow 0x5E#8).make = .f3 .lsrAbx := rfl
@[simp] theorem make_rts : (lookupRow 0x60#8).make = .f1 .rts := rfl
@[simp] theorem make_adcIzx : (lookupRow 0x61#8).make = .f2 .adcIzx := rfl
@[simp] theorem make_adcZp : (lookupRow 0x65#8).make = .f2 .adcZp := rfl
@[simp] theorem make_rorZp : (lookupRow 0x66#8).make = .f2 .rorZp := rfl
@[simp] theorem make_pla : (lookupRow 0x68#8).make = .f1 .pla := rfl
@[simp] theorem make_adcImm : (lookupRow 0x69#8).make = .f2 .adcImm := rfl
@[simp] theorem make_rorAcc : (lookupRow 0x6A#8).make = .f1 .rorAcc := rfl
@[simp] theorem make_jmpInd : (lookupRow 0x6C#8).make = .f3 .jmpInd := rfl
@[simp] theorem make_adcAbs : (lookupRow 0x6D#8).make = .f3 .adcAbs := rfl
@[simp] theorem make_rorAbs : (lookupRow 0x6E#8).make = .f3 .rorAbs := rfl
@[simp] theorem make_bvs : (lookupRow 0x70#8).make = .f2 .bvs := rfl
@[simp] theorem make_adcIzy : (lookupRow 0x71#8).make = .f2 .adcIzy := rfl
@[simp] theorem make_adcZpx : (lookupRow 0x75#8).make = .f2 .adcZpx := rfl
@[simp] theorem make_rorZpx : (lookupRow 0x76#8).make = .f2 .rorZpx := rfl
@[simp] theorem make_sei : (lookupRow 0x78#8).make = .f1 .sei := rfl
@[simp] theorem make_adcAby : (lookupRow 0x79#8).make = .f3 .adcAby := rfl
@[simp] theorem make_adcAbx : (lookupRow 0x7D#8).make = .f3 .adcAbx := rfl
@[simp] theorem make_rorAbx : (lookupRow 0x7E#8).make = .f3 .rorAbx := rfl
@[simp] theorem make_staIzx : (lookupRow 0x81#8).make = .f2 .staIzx := rfl
@[simp] theorem make_styZp : (lookupRow 0x84#8).make = .f2 .styZp := rfl
@[simp] theorem make_staZp : (lookupRow 0x85#8).make = .f2 .staZp := rfl
@[simp] theorem make_stxZp : (lookupRow 0x86#8).make = .f2 .stxZp := rfl
@[simp] theorem make_dey : (lookupRow 0x88#8).make = .f1 .dey := rfl
@[simp] theorem make_txa : (lookupRow 0x8A#8).make = .f1 .txa := rfl
@[simp] theorem make_styAbs : (lookupRow 0x8C#8).make = .f3 .styAbs := rfl
@[simp] theorem make_staAbs : (lookupRow 0x8D#8).make = .f3 .staAbs := rfl
@[simp] theorem make_stxAbs : (lookupRow 0x8E#8).make = .f3 .stxAbs := rfl
@[simp] theorem make_bcc : (lookupRow 0x90#8).make = .f2 .bcc := rfl
@[simp] theorem make_staIzy : (lookupRow 0x91#8).make = .f2 .staIzy := rfl
@[simp] theorem make_styZpx : (lookupRow 0x94#8).make = .f2 .styZpx := rfl
@[simp] theorem make_staZpx : (lookupRow 0x95#8).make = .f2 .staZpx := rfl
@[simp] theorem make_stxZpy : (lookupRow 0x96#8).make = .f2 .stxZpy := rfl
@[simp] theorem make_tya : (lookupRow 0x98#8).make = .f1 .tya := rfl
@[simp] theorem make_staAby : (lookupRow 0x99#8).make = .f3 .staAby := rfl
@[simp] theorem make_txs : (lookupRow 0x9A#8).make = .f1 .txs := rfl
@[simp] theorem make_staAbx : (lookupRow 0x9D#8).make = .f3 .staAbx := rfl
@[simp] theorem make_ldyImm : (lookupRow 0xA0#8).make = .f2 .ldyImm := rfl
@[simp] theorem make_ldaIzx : (lookupRow 0xA1#8).make = .f2 .ldaIzx := rfl
@[simp] theorem make_ldxImm : (lookupRow 0xA2#8).make = .f2 .ldxImm := rfl
@[simp] theorem make_ldyZp : (lookupRow 0xA4#8).make = .f2 .ldyZp := rfl
@[simp] theorem make_ldaZp : (lookupRow 0xA5#8).make = .f2 .ldaZp := rfl
@[simp] theorem make_ldxZp : (lookupRow 0xA6#8).make = .f2 .ldxZp := rfl
@[simp] theorem make_tay : (lookupRow 0xA8#8).make = .f1 .tay := rfl
@[simp] theorem make_ldaImm : (lookupRow 0xA9#8).make = .f2 .ldaImm := rfl
@[simp] theorem make_tax : (lookupRow 0xAA#8).make = .f1 .tax := rfl
@[simp] theorem make_ldyAbs : (lookupRow 0xAC#8).make = .f3 .ldyAbs := rfl
@[simp] theorem make_ldaAbs : (lookupRow 0xAD#8).make = .f3 .ldaAbs := rfl
@[simp] theorem make_ldxAbs : (lookupRow 0xAE#8).make = .f3 .ldxAbs := rfl
@[simp] theorem make_bcs : (lookupRow 0xB0#8).make = .f2 .bcs := rfl
@[simp] theorem make_ldaIzy : (lookupRow 0xB1#8).make = .f2 .ldaIzy := rfl
@[simp] theorem make_ldyZpx : (lookupRow 0xB4#8).make = .f2 .ldyZpx := rfl
@[simp] theorem make_ldaZpx : (lookupRow 0xB5#8).make = .f2 .ldaZpx := rfl
@[simp] theorem make_ldxZpy : (lookupRow 0xB6#8).make = .f2 .ldxZpy := rfl
@[simp] theorem make_clv : (lookupRow 0xB8#8).make = .f1 .clv := rfl
@[simp] theorem make_ldaAby : (lookupRow 0xB9#8).make = .f3 .ldaAby := rfl
@[simp] theorem make_tsx : (lookupRow 0xBA#8).make = .f1 .tsx := rfl
@[simp] theorem make_ldyAbx : (lookupRow 0xBC#8).make = .f3 .ldyAbx := rfl
@[simp] theorem make_ldaAbx : (lookupRow 0xBD#8).make = .f3 .ldaAbx := rfl
@[simp] theorem make_ldxAby : (lookupRow 0xBE#8).make = .f3 .ldxAby := rfl
@[simp] theorem make_cpyImm : (lookupRow 0xC0#8).make = .f2 .cpyImm := rfl
@[simp] theorem make_cmpIzx : (lookupRow 0xC1#8).make = .f2 .cmpIzx := rfl
@[simp] theorem make_cpyZp : (lookupRow 0xC4#8).make = .f2 .cpyZp := rfl
@[simp] theorem make_cmpZp : (lookupRow 0xC5#8).make = .f2 .cmpZp := rfl
@[simp] theorem make_decZp : (lookupRow 0xC6#8).make = .f2 .decZp := rfl
@[simp] theorem make_iny : (lookupRow 0xC8#8).make = .f1 .iny := rfl
@[simp] theorem make_cmpImm : (lookupRow 0xC9#8).make = .f2 .cmpImm := rfl
@[simp] theorem make_dex : (lookupRow 0xCA#8).make = .f1 .dex := rfl
@[simp] theorem make_cpyAbs : (lookupRow 0xCC#8).make = .f3 .cpyAbs := rfl
@[simp] theorem make_cmpAbs : (lookupRow 0xCD#8).make = .f3 .cmpAbs := rfl
@[simp] theorem make_decAbs : (lookupRow 0xCE#8).make = .f3 .decAbs := rfl
@[simp] theorem make_bne : (lookupRow 0xD0#8).make = .f2 .bne := rfl
@[simp] theorem make_cmpIzy : (lookupRow 0xD1#8).make = .f2 .cmpIzy := rfl
@[simp] theorem make_cmpZpx : (lookupRow 0xD5#8).make = .f2 .cmpZpx := rfl
@[simp] theorem make_decZpx : (lookupRow 0xD6#8).make = .f2 .decZpx := rfl
@[simp] theorem make_cld : (lookupRow 0xD8#8).make = .f1 .cld := rfl
@[simp] theorem make_cmpAby : (lookupRow 0xD9#8).make = .f3 .cmpAby := rfl
@[simp] theorem make_cmpAbx : (lookupRow 0xDD#8).make = .f3 .cmpAbx := rfl
@[simp] theorem make_decAbx : (lookupRow 0xDE#8).make = .f3 .decAbx := rfl
@[simp] theorem make_cpxImm : (lookupRow 0xE0#8).make = .f2 .cpxImm := rfl
@[simp] theorem make_sbcIzx : (lookupRow 0xE1#8).make = .f2 .sbcIzx := rfl
@[simp] theorem make_cpxZp : (lookupRow 0xE4#8).make = .f2 .cpxZp := rfl
@[simp] theorem make_sbcZp : (lookupRow 0xE5#8).make = .f2 .sbcZp := rfl
@[simp] theorem make_incZp : (lookupRow 0xE6#8).make = .f2 .incZp := rfl
@[simp] theorem make_inx : (lookupRow 0xE8#8).make = .f1 .inx := rfl
@[simp] theorem make_sbcImm : (lookupRow 0xE9#8).make = .f2 .sbcImm := rfl
@[simp] theorem make_nop : (lookupRow 0xEA#8).make = .f1 .nop := rfl
@[simp] theorem make_cpxAbs : (lookupRow 0xEC#8).make = .f3 .cpxAbs := rfl
@[simp] theorem make_sbcAbs : (lookupRow 0xED#8).make = .f3 .sbcAbs := rfl
@[simp] theorem make_incAbs : (lookupRow 0xEE#8).make = .f3 .incAbs := rfl
@[simp] theorem make_beq : (lookupRow 0xF0#8).make = .f2 .beq := rfl
@[simp] theorem make_sbcIzy : (lookupRow 0xF1#8).make = .f2 .sbcIzy := rfl
@[simp] theorem make_sbcZpx : (lookupRow 0xF5#8).make = .f2 .sbcZpx := rfl
@[simp] theorem make_incZpx : (lookupRow 0xF6#8).make = .f2 .incZpx := rfl
@[simp] theorem make_sed : (lookupRow 0xF8#8).make = .f1 .sed := rfl
@[simp] theorem make_sbcAby : (lookupRow 0xF9#8).make = .f3 .sbcAby := rfl
@[simp] theorem make_sbcAbx : (lookupRow 0xFD#8).make = .f3 .sbcAbx := rfl
@[simp] theorem make_incAbx : (lookupRow 0xFE#8).make = .f3 .incAbx := rfl

@[simp] theorem make_ill {op : Byte} (h : op ∈ undocumentedOpcodes) : (lookupRow op).make = .f1 (.ill op) := by
  rw [lookupRow_undocumented h]; rfl

@[simp] theorem lookup_ill {op : Byte} (h : op ∈ undocumentedOpcodes) : lookup op = ⟨.ILL, .implied, 2, 1, false⟩ := by
  rw [lookup, lookupRow_undocumented h]; rfl

/-- Every byte is undocumented or the opcode of a row. -/
theorem opcode_cases : ∀ op : Byte, op ∈ undocumentedOpcodes ∨ ∃ r ∈ opcodeTable, r.opcode = op := by decide +kernel

end Sys2Proof
end

