-- ==== Sys2Proof/Laws/Ops.lean ====
section
/-! SUPPORT. One lemma per shared operation that says everything it can do, and that each keeps memory canonical. -/

namespace Sys2Proof.Machine

/-! ### Canonical memory -/

theorem memWrite_wf {s : State} (h : s.mem.wf) (a : Word) (v : Byte) : (memWrite a v s).mem.wf :=
  Memory.wf_write_word h a v

theorem push_wf {s : State} (h : s.mem.wf) (v : Byte) : (push v s).mem.wf :=
  Memory.wf_write_word h _ v

theorem push16_wf {s : State} (h : s.mem.wf) (w : Word) : (push16 w s).mem.wf :=
  push_wf (push_wf h _) _

theorem enterInterrupt_wf {s : State} (h : s.mem.wf) (ret : Word) (brk : Bool) (vec : Word) :
    (enterInterrupt ret brk vec s).mem.wf :=
  push_wf (push16_wf (s := { s with fsm := .servicingInterrupt }) h ret) _

theorem interruptEntry_wf {s : State} (h : s.mem.wf) (kind : InterruptKind) : (interruptEntry kind s).mem.wf := by
  cases kind
  · exact enterInterrupt_wf (s := { s with nmiPend := false }) h s.pc false params.vecNmi
  · exact enterInterrupt_wf (s := { s with irqPend := false }) h s.pc false params.vecIrq

theorem resetSequence_mem (s : State) : (resetSequence s).mem = s.mem := rfl

/-! ### Entering and leaving an interrupt, and reset, as one update of the state -/

/-- Memory after the three pushes of an interrupt entry (R306). -/
def entryMem (ret : Word) (brk : Bool) (s : State) : Memory :=
  ((s.mem.write (stackAddr s.sp).toNat (hi ret)).write (stackAddr (s.sp - 1)).toNat (lo ret)).write
    (stackAddr (s.sp - 1 - 1)).toNat (pushedP brk s)

/-- The bus accesses of an interrupt entry: three writes, then the two vector reads (R58). -/
def entryBus (ret : Word) (brk : Bool) (vec : Word) (s : State) : List BusAccess :=
  [.write (stackAddr s.sp) (hi ret), .write (stackAddr (s.sp - 1)) (lo ret),
    .write (stackAddr (s.sp - 1 - 1)) (pushedP brk s), .read vec ((entryMem ret brk s).read vec.toNat),
    .read (vec + 1) ((entryMem ret brk s).read (vec + 1).toNat)]

theorem enterInterrupt_eq (ret : Word) (brk : Bool) (vec : Word) (s : State) :
    enterInterrupt ret brk vec s = { s with
      mem := entryMem ret brk s
      sp := s.sp - 1 - 1 - 1
      i := true
      pc := word ((entryMem ret brk s).read (vec + 1).toNat) ((entryMem ret brk s).read vec.toNat)
      fsm := .running
      bus := s.bus ++ entryBus ret brk vec s } := by
  simp only [enterInterrupt, read16, readPair, memRead, push16, push, memWrite, pushedP, flagsByte, entryMem, entryBus,
    List.append_assoc, List.cons_append, List.nil_append]

theorem interruptEntry_nmi (s : State) :
    interruptEntry .nmi s = charge 7 (enterInterrupt s.pc false 0xFFFA { s with nmiPend := false }) := rfl

theorem interruptEntry_irq (s : State) :
    interruptEntry .irq s = charge 7 (enterInterrupt s.pc false 0xFFFE { s with irqPend := false }) := rfl

theorem resetSequence_eq (s : State) : resetSequence s = { s with
    pc := word (s.mem.read 0xFFFD) (s.mem.read 0xFFFC)
    sp := 0xFD
    i := true
    nmiPend := false
    irqPend := false
    fsm := .running
    cycles := 0
    bus := s.bus ++ [.read 0xFFFC (s.mem.read 0xFFFC), .read 0xFFFD (s.mem.read 0xFFFD)] } := by
  simp only [resetSequence, charge, read16, readPair, memRead, List.append_assoc, List.cons_append, List.nil_append]
  rfl

theorem returnFromInterrupt_eq (s : State) :
    let slot (k : Byte) : Word := stackAddr (s.sp + k)
    let byteAt (k : Byte) : Byte := s.mem.read (slot k).toNat
    returnFromInterrupt s = (word (byteAt 3) (byteAt 2), { setP (byteAt 1) s with
      sp := s.sp + 3
      bus := s.bus ++ [.read (slot 1) (byteAt 1), .read (slot 2) (byteAt 2), .read (slot 3) (byteAt 3)] }) := by
  have h2 : s.sp + 1 + 1 = s.sp + 2 := BitVec.add_assoc ..
  have h3 : s.sp + 2 + 1 = s.sp + 3 := BitVec.add_assoc ..
  simp only [returnFromInterrupt, pull16, pull, memRead, setP, h2, h3, List.append_assoc, List.cons_append,
    List.nil_append]

/-! ### Resolving and accessing an operand -/

/-- Resolving only records bus reads: it changes nothing else of the state. -/
theorem resolve_state (o : Operand) (s : State) : ∃ reads, (resolve o s).2 = { s with bus := s.bus ++ reads } := by
  cases o with
  | indirect w =>
    exact ⟨[.read w (s.mem.read w.toNat), .read (word (hi w) (lo w + 1)) (s.mem.read (word (hi w) (lo w + 1)).toNat)],
      by simp [resolve, read16Bug, readPair, memRead]⟩
  | indexedIndirect b =>
    exact ⟨[.read (zext16 (b + s.x)) (s.mem.read (zext16 (b + s.x)).toNat),
      .read (zext16 (b + s.x + 1)) (s.mem.read (zext16 (b + s.x + 1)).toNat)],
      by simp [resolve, read16ZP, readPair, memRead]⟩
  | indirectIndexed b =>
    exact ⟨[.read (zext16 b) (s.mem.read (zext16 b).toNat), .read (zext16 (b + 1)) (s.mem.read (zext16 (b + 1)).toNat)],
      by simp [resolve, read16ZP, readPair, memRead]⟩
  | _ => exact ⟨[], by simp [resolve]⟩

/-- Reading an operand: the accumulator, the literal, or the byte at the address, which is one bus read. -/
theorem operandRead_some {e : Effective} {s s' : State} {m : Byte} (h : operandRead e s = some (m, s')) :
    (e = .acc ∧ m = s.a ∧ s' = s) ∨ (e = .imm m ∧ s' = s) ∨
      ∃ ea, e = .mem ea ∧ m = s.mem.read ea.toNat ∧ s' = { s with bus := s.bus ++ [.read ea m] } := by
  cases e with
  | none => simp [operandRead] at h
  | acc => simp only [operandRead, Option.some.injEq, Prod.mk.injEq] at h; exact .inl ⟨rfl, h.1.symm, h.2.symm⟩
  | imm v =>
    simp only [operandRead, Option.some.injEq, Prod.mk.injEq] at h
    exact .inr (.inl ⟨by rw [h.1], h.2.symm⟩)
  | mem ea =>
    simp only [operandRead, memRead, Option.some.injEq, Prod.mk.injEq] at h
    exact .inr (.inr ⟨ea, rfl, h.1.symm, by rw [← h.2, h.1]⟩)

/-- Writing an operand: the accumulator, or the byte at the address, which is one bus write. -/
theorem operandWrite_some {e : Effective} {v : Byte} {s s' : State} (h : operandWrite e v s = some s') :
    (e = .acc ∧ s' = { s with a := v }) ∨ ∃ ea, e = .mem ea ∧ s' = memWrite ea v s := by
  cases e with
  | none => simp [operandWrite] at h
  | imm => simp [operandWrite] at h
  | acc => exact .inl ⟨rfl, (Option.some.inj h).symm⟩
  | mem ea => exact .inr ⟨ea, rfl, (Option.some.inj h).symm⟩

/-! ### The shapes of an instruction -/

variable {opc : Byte} {o : Operand} {s t : State}

theorem runImplied_next {effect : State → State} :
    runImplied opc effect s = .next (retireAt (lookup opc) (penalty (lookup opc) false) (pcNext (lookup opc) s) (effect s)) :=
  rfl

theorem runRead_next {effect : Byte → State → State} (h : runRead opc o effect s = .next t) :
    ∃ m s', operandRead (resolve o s).1.operand (resolve o s).2 = some (m, s') ∧
      t = retireAt (lookup opc) (penalty (lookup opc) (resolve o s).1.crossed) (pcNext (lookup opc) s) (effect m s') := by
  unfold runRead at h
  cases hr : operandRead (resolve o s).1.operand (resolve o s).2 with
  | none => simp [hr] at h
  | some m => simp only [hr, retire, Host.Outcome.next.injEq] at h; exact ⟨m.1, m.2, rfl, h.symm⟩

theorem runWrite_next {value : Byte} (h : runWrite opc o value s = .next t) :
    ∃ s', operandWrite (resolve o s).1.operand value (resolve o s).2 = some s' ∧
      t = retireAt (lookup opc) (penalty (lookup opc) (resolve o s).1.crossed) (pcNext (lookup opc) s) s' := by
  unfold runWrite at h
  cases hw : operandWrite (resolve o s).1.operand value (resolve o s).2 with
  | none => simp [hw] at h
  | some s' => simp only [hw, retire, Host.Outcome.next.injEq] at h; exact ⟨s', rfl, h.symm⟩

theorem runModify_next {result : Byte → State → Byte} {flags : Byte → State → State}
    (h : runModify opc o result flags s = .next t) :
    ∃ m s₁ s₂, operandRead (resolve o s).1.operand (resolve o s).2 = some (m, s₁) ∧
      operandWrite (resolve o s).1.operand (result m s₁) (flags m s₁) = some s₂ ∧
      t = retireAt (lookup opc) (penalty (lookup opc) (resolve o s).1.crossed) (pcNext (lookup opc) s) s₂ := by
  unfold runModify at h
  cases hr : operandRead (resolve o s).1.operand (resolve o s).2 with
  | none => simp [hr] at h
  | some m =>
    cases hw : operandWrite (resolve o s).1.operand (result m.1 m.2) (flags m.1 m.2) with
    | none => simp [hr, hw] at h
    | some s₂ =>
      simp only [hr, hw, retire, Host.Outcome.next.injEq] at h
      exact ⟨m.1, m.2, s₂, rfl, hw, h.symm⟩

theorem runJump_next {effect : State → State} (h : runJump opc o effect s = .next t) :
    ∃ ea, (resolve o s).1.operand = .mem ea ∧ t = retireAt (lookup opc) 0 ea (effect (resolve o s).2) := by
  unfold runJump at h
  cases hm : (resolve o s).1.operand with
  | mem ea => simp only [hm, Host.Outcome.next.injEq] at h; exact ⟨ea, rfl, h.symm⟩
  | _ => simp [hm] at h

theorem runBranch_next {taken : Bool} (h : runBranch opc o taken s = .next t) :
    ∃ target, (resolve o s).1.operand = .mem target ∧
      ((taken = true ∧ t = retireAt (lookup opc) (if (resolve o s).1.crossed then 2 else 1) target (resolve o s).2) ∨
       (taken = false ∧ t = retireAt (lookup opc) 0 (pcNext (lookup opc) s) (resolve o s).2)) := by
  unfold runBranch at h
  cases hm : (resolve o s).1.operand with
  | mem target =>
    cases taken <;> simp only [hm, if_true, Bool.false_eq_true, if_false, Host.Outcome.next.injEq] at h <;>
      exact ⟨target, rfl, by simp [h]⟩
  | _ => simp [hm] at h

/-! ### The shapes of an instruction, up to the operand, the PC and the cycles: what each can change -/

theorem runRead_frame {effect : Byte → State → State} (h : runRead opc o effect s = .next t) :
    ∃ m bus pc k, t = retireAt (lookup opc) k pc (effect m { s with bus := bus }) := by
  obtain ⟨m, s', hm, rfl⟩ := runRead_next h
  obtain ⟨reads, hst⟩ := resolve_state o s
  rw [hst] at hm
  rcases operandRead_some hm with ⟨_, _, e⟩ | ⟨_, e⟩ | ⟨_, _, _, e⟩ <;> subst e <;> exact ⟨m, _, _, _, rfl⟩

theorem runWrite_frame {value : Byte} (h : runWrite opc o value s = .next t) (ho : o ≠ .accumulator) :
    ∃ mem bus pc k, t = retireAt (lookup opc) k pc { s with mem := mem, bus := bus } := by
  obtain ⟨s', hm, rfl⟩ := runWrite_next h
  obtain ⟨reads, hst⟩ := resolve_state o s
  rw [hst] at hm
  rcases operandWrite_some hm with ⟨e1, e⟩ | ⟨_, _, e⟩
  · exfalso
    cases o <;> first | exact absurd rfl ho | simp [resolve, indexed] at e1
  · subst e
    exact ⟨_, _, _, _, rfl⟩

theorem runModify_frame {result : Byte → State → Byte} {flags : Byte → State → State}
    (h : runModify opc o result flags s = .next t) (ho : o ≠ .accumulator) :
    ∃ m mem bus bus' pc k,
      t = retireAt (lookup opc) k pc { flags m { s with bus := bus } with mem := mem, bus := bus' } := by
  obtain ⟨m, s₁, s₂, hm, hw, rfl⟩ := runModify_next h
  obtain ⟨reads, hst⟩ := resolve_state o s
  rw [hst] at hm
  rcases operandWrite_some hw with ⟨e1, e⟩ | ⟨_, _, e⟩
  · exfalso
    cases o <;> first | exact absurd rfl ho | simp [resolve, indexed] at e1
  · rcases operandRead_some hm with ⟨_, _, e'⟩ | ⟨_, e'⟩ | ⟨_, _, _, e'⟩ <;> subst e' <;> subst e <;>
      exact ⟨m, _, _, _, _, _, rfl⟩

theorem runModify_accumulator_frame {result : Byte → State → Byte} {flags : Byte → State → State}
    (h : runModify opc .accumulator result flags s = .next t) :
    ∃ a m bus pc k, t = retireAt (lookup opc) k pc { flags m { s with bus := bus } with a := a } := by
  obtain ⟨m, s₁, s₂, hm, hw, rfl⟩ := runModify_next h
  rcases operandWrite_some hw with ⟨_, e⟩ | ⟨_, e1, _⟩
  · rcases operandRead_some hm with ⟨_, _, e'⟩ | ⟨_, e'⟩ | ⟨_, _, _, e'⟩ <;> subst e' <;> subst e <;>
      exact ⟨_, m, _, _, _, rfl⟩
  · cases e1

theorem runJump_frame {effect : State → State} (h : runJump opc o effect s = .next t) :
    ∃ bus pc k, t = retireAt (lookup opc) k pc (effect { s with bus := bus }) := by
  obtain ⟨_, _, rfl⟩ := runJump_next h
  obtain ⟨reads, hst⟩ := resolve_state o s
  rw [hst]
  exact ⟨_, _, _, rfl⟩

theorem runBranch_frame {taken : Bool} (h : runBranch opc o taken s = .next t) :
    ∃ bus pc k, t = retireAt (lookup opc) k pc { s with bus := bus } := by
  obtain ⟨reads, hst⟩ := resolve_state o s
  obtain ⟨_, _, ⟨_, rfl⟩ | ⟨_, rfl⟩⟩ := runBranch_next h <;> rw [hst] <;> exact ⟨_, _, _, rfl⟩

/-! ### Steps -/

/-- Fetching only records bus reads: it changes nothing else of the state. -/
theorem fetch_state (s : State) : ∃ bus, (fetch s).2 = { s with bus := bus } := by
  unfold fetch
  dsimp only
  split <;> exact ⟨_, rfl⟩

/-- What a step is, by the state it begins in. -/
theorem step_cases (s : State) :
    (s.fsm = .reset ∧ controlStep s = .next (resetSequence (clearOutputs s))) ∨
    (s.fsm = .halted ∧ controlStep s = .next (clearOutputs s)) ∨
    (s.fsm = .servicingInterrupt ∧ controlStep s = .fault .servicingAtBoundary) ∨
    (s.fsm = .running ∧
      ((s.nmiPend = true ∧ controlStep s = .next (interruptEntry .nmi (clearOutputs s))) ∨
       (s.nmiPend = false ∧ s.irqPend = true ∧ s.i = false ∧
         controlStep s = .next (interruptEntry .irq (clearOutputs s))) ∨
       (s.nmiPend = false ∧ (s.irqPend = false ∨ s.i = true) ∧ controlStep s = executeOne (clearOutputs s)))) := by
  cases hf : s.fsm <;> simp [controlStep, runningStep, hf]
  cases hn : s.nmiPend <;> simp
  cases hq : s.irqPend <;> cases hi : s.i <;> simp

/-- What a step that goes on came to, by the state it began in. -/
theorem step_next (h : step s = .next t) :
    (s.fsm = .reset ∧ t = resetSequence (clearOutputs s)) ∨ (s.fsm = .halted ∧ t = clearOutputs s) ∨
    (s.fsm = .running ∧ s.nmiPend = true ∧ t = interruptEntry .nmi (clearOutputs s)) ∨
    (s.fsm = .running ∧ s.nmiPend = false ∧ s.irqPend = true ∧ s.i = false ∧
      t = interruptEntry .irq (clearOutputs s)) ∨
    (s.fsm = .running ∧ s.nmiPend = false ∧ (s.irqPend = false ∨ s.i = true) ∧
      exec (fetch (clearOutputs s)).1 (fetch (clearOutputs s)).2 = .next t) := by
  have h' : controlStep s = .next t := h
  have hc (u : State) (e : controlStep s = .next u) : t = u := Host.Outcome.next.inj (h'.symm.trans e)
  rcases step_cases s with ⟨hf, e⟩ | ⟨hf, e⟩ | ⟨_, e⟩ | ⟨hf, ⟨hn, e⟩ | ⟨hn, hq, hi, e⟩ | ⟨hn, hq, e⟩⟩
  · exact .inl ⟨hf, hc _ e⟩
  · exact .inr (.inl ⟨hf, hc _ e⟩)
  · rw [h'] at e
    cases e
  · exact .inr (.inr (.inl ⟨hf, hn, hc _ e⟩))
  · exact .inr (.inr (.inr (.inl ⟨hf, hn, hq, hi, hc _ e⟩)))
  · exact .inr (.inr (.inr (.inr ⟨hf, hn, hq, e.symm.trans h'⟩)))

end Sys2Proof.Machine
end

