-- ==== Sys2Proof/Laws/PerInstr.lean ====
section
/-! SUPPORT. Facts about each instruction as syntax, one lemma per constructor.

`EncodedForm`: a well-formed instruction's operand is in the mode its descriptor names, and its encoding has as many
bytes as its descriptor's length (spec/30_encoding.md R81, R84, R85). -/

set_option Elab.async false

namespace Sys2Proof.Laws.EncodedForm

/-- A well-formed instruction's operand and length are those of its descriptor. -/
def Statement (i : Instr) : Prop :=
  i.WellFormed → i.operand.mode = i.descriptor.mode ∧ (encode i).length = i.descriptor.length

theorem ldaImm (b : Byte) : Statement (.ldaImm b) := by
  intro _
  simp [Instr.descriptor, Instr.opcode, Instr.operand, Operand.mode, encode, Operand.bytes]
theorem ldaZp (b : Byte) : Statement (.ldaZp b) := by
  intro _
  simp [Instr.descriptor, Instr.opcode, Instr.operand, Operand.mode, encode, Operand.bytes]
theorem ldaZpx (b : Byte) : Statement (.ldaZpx b) := by
  intro _
  simp [Instr.descriptor, Instr.opcode, Instr.operand, Operand.mode, encode, Operand.bytes]
theorem ldaAbs (w : Word) : Statement (.ldaAbs w) := by
  intro _
  simp [Instr.descriptor, Instr.opcode, Instr.operand, Operand.mode, encode, Operand.bytes]
theorem ldaAbx (w : Word) : Statement (.ldaAbx w) := by
  intro _
  simp [Instr.descriptor, Instr.opcode, Instr.operand, Operand.mode, encode, Operand.bytes]
theorem ldaAby (w : Word) : Statement (.ldaAby w) := by
  intro _
  simp [Instr.descriptor, Instr.opcode, Instr.operand, Operand.mode, encode, Operand.bytes]
theorem ldaIzx (b : Byte) : Statement (.ldaIzx b) := by
  intro _
  simp [Instr.descriptor, Instr.opcode, Instr.operand, Operand.mode, encode, Operand.bytes]
theorem ldaIzy (b : Byte) : Statement (.ldaIzy b) := by
  intro _
  simp [Instr.descriptor, Instr.opcode, Instr.operand, Operand.mode, encode, Operand.bytes]
theorem ldxImm (b : Byte) : Statement (.ldxImm b) := by
  intro _
  simp [Instr.descriptor, Instr.opcode, Instr.operand, Operand.mode, encode, Operand.bytes]
theorem ldxZp (b : Byte) : Statement (.ldxZp b) := by
  intro _
  simp [Instr.descriptor, Instr.opcode, Instr.operand, Operand.mode, encode, Operand.bytes]
theorem ldxZpy (b : Byte) : Statement (.ldxZpy b) := by
  intro _
  simp [Instr.descriptor, Instr.opcode, Instr.operand, Operand.mode, encode, Operand.bytes]
theorem ldxAbs (w : Word) : Statement (.ldxAbs w) := by
  intro _
  simp [Instr.descriptor, Instr.opcode, Instr.operand, Operand.mode, encode, Operand.bytes]
theorem ldxAby (w : Word) : Statement (.ldxAby w) := by
  intro _
  simp [Instr.descriptor, Instr.opcode, Instr.operand, Operand.mode, encode, Operand.bytes]
theorem ldyImm (b : Byte) : Statement (.ldyImm b) := by
  intro _
  simp [Instr.descriptor, Instr.opcode, Instr.operand, Operand.mode, encode, Operand.bytes]
theorem ldyZp (b : Byte) : Statement (.ldyZp b) := by
  intro _
  simp [Instr.descriptor, Instr.opcode, Instr.operand, Operand.mode, encode, Operand.bytes]
theorem ldyZpx (b : Byte) : Statement (.ldyZpx b) := by
  intro _
  simp [Instr.descriptor, Instr.opcode, Instr.operand, Operand.mode, encode, Operand.bytes]
theorem ldyAbs (w : Word) : Statement (.ldyAbs w) := by
  intro _
  simp [Instr.descriptor, Instr.opcode, Instr.operand, Operand.mode, encode, Operand.bytes]
theorem ldyAbx (w : Word) : Statement (.ldyAbx w) := by
  intro _
  simp [Instr.descriptor, Instr.opcode, Instr.operand, Operand.mode, encode, Operand.bytes]
theorem staZp (b : Byte) : Statement (.staZp b) := by
  intro _
  simp [Instr.descriptor, Instr.opcode, Instr.operand, Operand.mode, encode, Operand.bytes]
theorem staZpx (b : Byte) : Statement (.staZpx b) := by
  intro _
  simp [Instr.descriptor, Instr.opcode, Instr.operand, Operand.mode, encode, Operand.bytes]
theorem staAbs (w : Word) : Statement (.staAbs w) := by
  intro _
  simp [Instr.descriptor, Instr.opcode, Instr.operand, Operand.mode, encode, Operand.bytes]
theorem staAbx (w : Word) : Statement (.staAbx w) := by
  intro _
  simp [Instr.descriptor, Instr.opcode, Instr.operand, Operand.mode, encode, Operand.bytes]
theorem staAby (w : Word) : Statement (.staAby w) := by
  intro _
  simp [Instr.descriptor, Instr.opcode, Instr.operand, Operand.mode, encode, Operand.bytes]
theorem staIzx (b : Byte) : Statement (.staIzx b) := by
  intro _
  simp [Instr.descriptor, Instr.opcode, Instr.operand, Operand.mode, encode, Operand.bytes]
theorem staIzy (b : Byte) : Statement (.staIzy b) := by
  intro _
  simp [Instr.descriptor, Instr.opcode, Instr.operand, Operand.mode, encode, Operand.bytes]
theorem stxZp (b : Byte) : Statement (.stxZp b) := by
  intro _
  simp [Instr.descriptor, Instr.opcode, Instr.operand, Operand.mode, encode, Operand.bytes]
theorem stxZpy (b : Byte) : Statement (.stxZpy b) := by
  intro _
  simp [Instr.descriptor, Instr.opcode, Instr.operand, Operand.mode, encode, Operand.bytes]
theorem stxAbs (w : Word) : Statement (.stxAbs w) := by
  intro _
  simp [Instr.descriptor, Instr.opcode, Instr.operand, Operand.mode, encode, Operand.bytes]
theorem styZp (b : Byte) : Statement (.styZp b) := by
  intro _
  simp [Instr.descriptor, Instr.opcode, Instr.operand, Operand.mode, encode, Operand.bytes]
theorem styZpx (b : Byte) : Statement (.styZpx b) := by
  intro _
  simp [Instr.descriptor, Instr.opcode, Instr.operand, Operand.mode, encode, Operand.bytes]
theorem styAbs (w : Word) : Statement (.styAbs w) := by
  intro _
  simp [Instr.descriptor, Instr.opcode, Instr.operand, Operand.mode, encode, Operand.bytes]
theorem adcImm (b : Byte) : Statement (.adcImm b) := by
  intro _
  simp [Instr.descriptor, Instr.opcode, Instr.operand, Operand.mode, encode, Operand.bytes]
theorem adcZp (b : Byte) : Statement (.adcZp b) := by
  intro _
  simp [Instr.descriptor, Instr.opcode, Instr.operand, Operand.mode, encode, Operand.bytes]
theorem adcZpx (b : Byte) : Statement (.adcZpx b) := by
  intro _
  simp [Instr.descriptor, Instr.opcode, Instr.operand, Operand.mode, encode, Operand.bytes]
theorem adcAbs (w : Word) : Statement (.adcAbs w) := by
  intro _
  simp [Instr.descriptor, Instr.opcode, Instr.operand, Operand.mode, encode, Operand.bytes]
theorem adcAbx (w : Word) : Statement (.adcAbx w) := by
  intro _
  simp [Instr.descriptor, Instr.opcode, Instr.operand, Operand.mode, encode, Operand.bytes]
theorem adcAby (w : Word) : Statement (.adcAby w) := by
  intro _
  simp [Instr.descriptor, Instr.opcode, Instr.operand, Operand.mode, encode, Operand.bytes]
theorem adcIzx (b : Byte) : Statement (.adcIzx b) := by
  intro _
  simp [Instr.descriptor, Instr.opcode, Instr.operand, Operand.mode, encode, Operand.bytes]
theorem adcIzy (b : Byte) : Statement (.adcIzy b) := by
  intro _
  simp [Instr.descriptor, Instr.opcode, Instr.operand, Operand.mode, encode, Operand.bytes]
theorem sbcImm (b : Byte) : Statement (.sbcImm b) := by
  intro _
  simp [Instr.descriptor, Instr.opcode, Instr.operand, Operand.mode, encode, Operand.bytes]
theorem sbcZp (b : Byte) : Statement (.sbcZp b) := by
  intro _
  simp [Instr.descriptor, Instr.opcode, Instr.operand, Operand.mode, encode, Operand.bytes]
theorem sbcZpx (b : Byte) : Statement (.sbcZpx b) := by
  intro _
  simp [Instr.descriptor, Instr.opcode, Instr.operand, Operand.mode, encode, Operand.bytes]
theorem sbcAbs (w : Word) : Statement (.sbcAbs w) := by
  intro _
  simp [Instr.descriptor, Instr.opcode, Instr.operand, Operand.mode, encode, Operand.bytes]
theorem sbcAbx (w : Word) : Statement (.sbcAbx w) := by
  intro _
  simp [Instr.descriptor, Instr.opcode, Instr.operand, Operand.mode, encode, Operand.bytes]
theorem sbcAby (w : Word) : Statement (.sbcAby w) := by
  intro _
  simp [Instr.descriptor, Instr.opcode, Instr.operand, Operand.mode, encode, Operand.bytes]
theorem sbcIzx (b : Byte) : Statement (.sbcIzx b) := by
  intro _
  simp [Instr.descriptor, Instr.opcode, Instr.operand, Operand.mode, encode, Operand.bytes]
theorem sbcIzy (b : Byte) : Statement (.sbcIzy b) := by
  intro _
  simp [Instr.descriptor, Instr.opcode, Instr.operand, Operand.mode, encode, Operand.bytes]
theorem incZp (b : Byte) : Statement (.incZp b) := by
  intro _
  simp [Instr.descriptor, Instr.opcode, Instr.operand, Operand.mode, encode, Operand.bytes]
theorem incZpx (b : Byte) : Statement (.incZpx b) := by
  intro _
  simp [Instr.descriptor, Instr.opcode, Instr.operand, Operand.mode, encode, Operand.bytes]
theorem incAbs (w : Word) : Statement (.incAbs w) := by
  intro _
  simp [Instr.descriptor, Instr.opcode, Instr.operand, Operand.mode, encode, Operand.bytes]
theorem incAbx (w : Word) : Statement (.incAbx w) := by
  intro _
  simp [Instr.descriptor, Instr.opcode, Instr.operand, Operand.mode, encode, Operand.bytes]
theorem decZp (b : Byte) : Statement (.decZp b) := by
  intro _
  simp [Instr.descriptor, Instr.opcode, Instr.operand, Operand.mode, encode, Operand.bytes]
theorem decZpx (b : Byte) : Statement (.decZpx b) := by
  intro _
  simp [Instr.descriptor, Instr.opcode, Instr.operand, Operand.mode, encode, Operand.bytes]
theorem decAbs (w : Word) : Statement (.decAbs w) := by
  intro _
  simp [Instr.descriptor, Instr.opcode, Instr.operand, Operand.mode, encode, Operand.bytes]
theorem decAbx (w : Word) : Statement (.decAbx w) := by
  intro _
  simp [Instr.descriptor, Instr.opcode, Instr.operand, Operand.mode, encode, Operand.bytes]
theorem inx : Statement .inx := by
  intro _
  simp [Instr.descriptor, Instr.opcode, Instr.operand, Operand.mode, encode, Operand.bytes]
theorem iny : Statement .iny := by
  intro _
  simp [Instr.descriptor, Instr.opcode, Instr.operand, Operand.mode, encode, Operand.bytes]
theorem dex : Statement .dex := by
  intro _
  simp [Instr.descriptor, Instr.opcode, Instr.operand, Operand.mode, encode, Operand.bytes]
theorem dey : Statement .dey := by
  intro _
  simp [Instr.descriptor, Instr.opcode, Instr.operand, Operand.mode, encode, Operand.bytes]
theorem andImm (b : Byte) : Statement (.andImm b) := by
  intro _
  simp [Instr.descriptor, Instr.opcode, Instr.operand, Operand.mode, encode, Operand.bytes]
theorem andZp (b : Byte) : Statement (.andZp b) := by
  intro _
  simp [Instr.descriptor, Instr.opcode, Instr.operand, Operand.mode, encode, Operand.bytes]
theorem andZpx (b : Byte) : Statement (.andZpx b) := by
  intro _
  simp [Instr.descriptor, Instr.opcode, Instr.operand, Operand.mode, encode, Operand.bytes]
theorem andAbs (w : Word) : Statement (.andAbs w) := by
  intro _
  simp [Instr.descriptor, Instr.opcode, Instr.operand, Operand.mode, encode, Operand.bytes]
theorem andAbx (w : Word) : Statement (.andAbx w) := by
  intro _
  simp [Instr.descriptor, Instr.opcode, Instr.operand, Operand.mode, encode, Operand.bytes]
theorem andAby (w : Word) : Statement (.andAby w) := by
  intro _
  simp [Instr.descriptor, Instr.opcode, Instr.operand, Operand.mode, encode, Operand.bytes]
theorem andIzx (b : Byte) : Statement (.andIzx b) := by
  intro _
  simp [Instr.descriptor, Instr.opcode, Instr.operand, Operand.mode, encode, Operand.bytes]
theorem andIzy (b : Byte) : Statement (.andIzy b) := by
  intro _
  simp [Instr.descriptor, Instr.opcode, Instr.operand, Operand.mode, encode, Operand.bytes]
theorem oraImm (b : Byte) : Statement (.oraImm b) := by
  intro _
  simp [Instr.descriptor, Instr.opcode, Instr.operand, Operand.mode, encode, Operand.bytes]
theorem oraZp (b : Byte) : Statement (.oraZp b) := by
  intro _
  simp [Instr.descriptor, Instr.opcode, Instr.operand, Operand.mode, encode, Operand.bytes]
theorem oraZpx (b : Byte) : Statement (.oraZpx b) := by
  intro _
  simp [Instr.descriptor, Instr.opcode, Instr.operand, Operand.mode, encode, Operand.bytes]
theorem oraAbs (w : Word) : Statement (.oraAbs w) := by
  intro _
  simp [Instr.descriptor, Instr.opcode, Instr.operand, Operand.mode, encode, Operand.bytes]
theorem oraAbx (w : Word) : Statement (.oraAbx w) := by
  intro _
  simp [Instr.descriptor, Instr.opcode, Instr.operand, Operand.mode, encode, Operand.bytes]
theorem oraAby (w : Word) : Statement (.oraAby w) := by
  intro _
  simp [Instr.descriptor, Instr.opcode, Instr.operand, Operand.mode, encode, Operand.bytes]
theorem oraIzx (b : Byte) : Statement (.oraIzx b) := by
  intro _
  simp [Instr.descriptor, Instr.opcode, Instr.operand, Operand.mode, encode, Operand.bytes]
theorem oraIzy (b : Byte) : Statement (.oraIzy b) := by
  intro _
  simp [Instr.descriptor, Instr.opcode, Instr.operand, Operand.mode, encode, Operand.bytes]
theorem eorImm (b : Byte) : Statement (.eorImm b) := by
  intro _
  simp [Instr.descriptor, Instr.opcode, Instr.operand, Operand.mode, encode, Operand.bytes]
theorem eorZp (b : Byte) : Statement (.eorZp b) := by
  intro _
  simp [Instr.descriptor, Instr.opcode, Instr.operand, Operand.mode, encode, Operand.bytes]
theorem eorZpx (b : Byte) : Statement (.eorZpx b) := by
  intro _
  simp [Instr.descriptor, Instr.opcode, Instr.operand, Operand.mode, encode, Operand.bytes]
theorem eorAbs (w : Word) : Statement (.eorAbs w) := by
  intro _
  simp [Instr.descriptor, Instr.opcode, Instr.operand, Operand.mode, encode, Operand.bytes]
theorem eorAbx (w : Word) : Statement (.eorAbx w) := by
  intro _
  simp [Instr.descriptor, Instr.opcode, Instr.operand, Operand.mode, encode, Operand.bytes]
theorem eorAby (w : Word) : Statement (.eorAby w) := by
  intro _
  simp [Instr.descriptor, Instr.opcode, Instr.operand, Operand.mode, encode, Operand.bytes]
theorem eorIzx (b : Byte) : Statement (.eorIzx b) := by
  intro _
  simp [Instr.descriptor, Instr.opcode, Instr.operand, Operand.mode, encode, Operand.bytes]
theorem eorIzy (b : Byte) : Statement (.eorIzy b) := by
  intro _
  simp [Instr.descriptor, Instr.opcode, Instr.operand, Operand.mode, encode, Operand.bytes]
theorem bitZp (b : Byte) : Statement (.bitZp b) := by
  intro _
  simp [Instr.descriptor, Instr.opcode, Instr.operand, Operand.mode, encode, Operand.bytes]
theorem bitAbs (w : Word) : Statement (.bitAbs w) := by
  intro _
  simp [Instr.descriptor, Instr.opcode, Instr.operand, Operand.mode, encode, Operand.bytes]
theorem aslAcc : Statement .aslAcc := by
  intro _
  simp [Instr.descriptor, Instr.opcode, Instr.operand, Operand.mode, encode, Operand.bytes]
theorem aslZp (b : Byte) : Statement (.aslZp b) := by
  intro _
  simp [Instr.descriptor, Instr.opcode, Instr.operand, Operand.mode, encode, Operand.bytes]
theorem aslZpx (b : Byte) : Statement (.aslZpx b) := by
  intro _
  simp [Instr.descriptor, Instr.opcode, Instr.operand, Operand.mode, encode, Operand.bytes]
theorem aslAbs (w : Word) : Statement (.aslAbs w) := by
  intro _
  simp [Instr.descriptor, Instr.opcode, Instr.operand, Operand.mode, encode, Operand.bytes]
theorem aslAbx (w : Word) : Statement (.aslAbx w) := by
  intro _
  simp [Instr.descriptor, Instr.opcode, Instr.operand, Operand.mode, encode, Operand.bytes]
theorem lsrAcc : Statement .lsrAcc := by
  intro _
  simp [Instr.descriptor, Instr.opcode, Instr.operand, Operand.mode, encode, Operand.bytes]
theorem lsrZp (b : Byte) : Statement (.lsrZp b) := by
  intro _
  simp [Instr.descriptor, Instr.opcode, Instr.operand, Operand.mode, encode, Operand.bytes]
theorem lsrZpx (b : Byte) : Statement (.lsrZpx b) := by
  intro _
  simp [Instr.descriptor, Instr.opcode, Instr.operand, Operand.mode, encode, Operand.bytes]
theorem lsrAbs (w : Word) : Statement (.lsrAbs w) := by
  intro _
  simp [Instr.descriptor, Instr.opcode, Instr.operand, Operand.mode, encode, Operand.bytes]
theorem lsrAbx (w : Word) : Statement (.lsrAbx w) := by
  intro _
  simp [Instr.descriptor, Instr.opcode, Instr.operand, Operand.mode, encode, Operand.bytes]
theorem rolAcc : Statement .rolAcc := by
  intro _
  simp [Instr.descriptor, Instr.opcode, Instr.operand, Operand.mode, encode, Operand.bytes]
theorem rolZp (b : Byte) : Statement (.rolZp b) := by
  intro _
  simp [Instr.descriptor, Instr.opcode, Instr.operand, Operand.mode, encode, Operand.bytes]
theorem rolZpx (b : Byte) : Statement (.rolZpx b) := by
  intro _
  simp [Instr.descriptor, Instr.opcode, Instr.operand, Operand.mode, encode, Operand.bytes]
theorem rolAbs (w : Word) : Statement (.rolAbs w) := by
  intro _
  simp [Instr.descriptor, Instr.opcode, Instr.operand, Operand.mode, encode, Operand.bytes]
theorem rolAbx (w : Word) : Statement (.rolAbx w) := by
  intro _
  simp [Instr.descriptor, Instr.opcode, Instr.operand, Operand.mode, encode, Operand.bytes]
theorem rorAcc : Statement .rorAcc := by
  intro _
  simp [Instr.descriptor, Instr.opcode, Instr.operand, Operand.mode, encode, Operand.bytes]
theorem rorZp (b : Byte) : Statement (.rorZp b) := by
  intro _
  simp [Instr.descriptor, Instr.opcode, Instr.operand, Operand.mode, encode, Operand.bytes]
theorem rorZpx (b : Byte) : Statement (.rorZpx b) := by
  intro _
  simp [Instr.descriptor, Instr.opcode, Instr.operand, Operand.mode, encode, Operand.bytes]
theorem rorAbs (w : Word) : Statement (.rorAbs w) := by
  intro _
  simp [Instr.descriptor, Instr.opcode, Instr.operand, Operand.mode, encode, Operand.bytes]
theorem rorAbx (w : Word) : Statement (.rorAbx w) := by
  intro _
  simp [Instr.descriptor, Instr.opcode, Instr.operand, Operand.mode, encode, Operand.bytes]
theorem cmpImm (b : Byte) : Statement (.cmpImm b) := by
  intro _
  simp [Instr.descriptor, Instr.opcode, Instr.operand, Operand.mode, encode, Operand.bytes]
theorem cmpZp (b : Byte) : Statement (.cmpZp b) := by
  intro _
  simp [Instr.descriptor, Instr.opcode, Instr.operand, Operand.mode, encode, Operand.bytes]
theorem cmpZpx (b : Byte) : Statement (.cmpZpx b) := by
  intro _
  simp [Instr.descriptor, Instr.opcode, Instr.operand, Operand.mode, encode, Operand.bytes]
theorem cmpAbs (w : Word) : Statement (.cmpAbs w) := by
  intro _
  simp [Instr.descriptor, Instr.opcode, Instr.operand, Operand.mode, encode, Operand.bytes]
theorem cmpAbx (w : Word) : Statement (.cmpAbx w) := by
  intro _
  simp [Instr.descriptor, Instr.opcode, Instr.operand, Operand.mode, encode, Operand.bytes]
theorem cmpAby (w : Word) : Statement (.cmpAby w) := by
  intro _
  simp [Instr.descriptor, Instr.opcode, Instr.operand, Operand.mode, encode, Operand.bytes]
theorem cmpIzx (b : Byte) : Statement (.cmpIzx b) := by
  intro _
  simp [Instr.descriptor, Instr.opcode, Instr.operand, Operand.mode, encode, Operand.bytes]
theorem cmpIzy (b : Byte) : Statement (.cmpIzy b) := by
  intro _
  simp [Instr.descriptor, Instr.opcode, Instr.operand, Operand.mode, encode, Operand.bytes]
theorem cpxImm (b : Byte) : Statement (.cpxImm b) := by
  intro _
  simp [Instr.descriptor, Instr.opcode, Instr.operand, Operand.mode, encode, Operand.bytes]
theorem cpxZp (b : Byte) : Statement (.cpxZp b) := by
  intro _
  simp [Instr.descriptor, Instr.opcode, Instr.operand, Operand.mode, encode, Operand.bytes]
theorem cpxAbs (w : Word) : Statement (.cpxAbs w) := by
  intro _
  simp [Instr.descriptor, Instr.opcode, Instr.operand, Operand.mode, encode, Operand.bytes]
theorem cpyImm (b : Byte) : Statement (.cpyImm b) := by
  intro _
  simp [Instr.descriptor, Instr.opcode, Instr.operand, Operand.mode, encode, Operand.bytes]
theorem cpyZp (b : Byte) : Statement (.cpyZp b) := by
  intro _
  simp [Instr.descriptor, Instr.opcode, Instr.operand, Operand.mode, encode, Operand.bytes]
theorem cpyAbs (w : Word) : Statement (.cpyAbs w) := by
  intro _
  simp [Instr.descriptor, Instr.opcode, Instr.operand, Operand.mode, encode, Operand.bytes]
theorem bcc (b : Byte) : Statement (.bcc b) := by
  intro _
  simp [Instr.descriptor, Instr.opcode, Instr.operand, Operand.mode, encode, Operand.bytes]
theorem bcs (b : Byte) : Statement (.bcs b) := by
  intro _
  simp [Instr.descriptor, Instr.opcode, Instr.operand, Operand.mode, encode, Operand.bytes]
theorem beq (b : Byte) : Statement (.beq b) := by
  intro _
  simp [Instr.descriptor, Instr.opcode, Instr.operand, Operand.mode, encode, Operand.bytes]
theorem bne (b : Byte) : Statement (.bne b) := by
  intro _
  simp [Instr.descriptor, Instr.opcode, Instr.operand, Operand.mode, encode, Operand.bytes]
theorem bmi (b : Byte) : Statement (.bmi b) := by
  intro _
  simp [Instr.descriptor, Instr.opcode, Instr.operand, Operand.mode, encode, Operand.bytes]
theorem bpl (b : Byte) : Statement (.bpl b) := by
  intro _
  simp [Instr.descriptor, Instr.opcode, Instr.operand, Operand.mode, encode, Operand.bytes]
theorem bvc (b : Byte) : Statement (.bvc b) := by
  intro _
  simp [Instr.descriptor, Instr.opcode, Instr.operand, Operand.mode, encode, Operand.bytes]
theorem bvs (b : Byte) : Statement (.bvs b) := by
  intro _
  simp [Instr.descriptor, Instr.opcode, Instr.operand, Operand.mode, encode, Operand.bytes]
theorem jmpAbs (w : Word) : Statement (.jmpAbs w) := by
  intro _
  simp [Instr.descriptor, Instr.opcode, Instr.operand, Operand.mode, encode, Operand.bytes]
theorem jmpInd (w : Word) : Statement (.jmpInd w) := by
  intro _
  simp [Instr.descriptor, Instr.opcode, Instr.operand, Operand.mode, encode, Operand.bytes]
theorem jsr (w : Word) : Statement (.jsr w) := by
  intro _
  simp [Instr.descriptor, Instr.opcode, Instr.operand, Operand.mode, encode, Operand.bytes]
theorem rts : Statement .rts := by
  intro _
  simp [Instr.descriptor, Instr.opcode, Instr.operand, Operand.mode, encode, Operand.bytes]
theorem brk : Statement .brk := by
  intro _
  simp [Instr.descriptor, Instr.opcode, Instr.operand, Operand.mode, encode, Operand.bytes]
theorem rti : Statement .rti := by
  intro _
  simp [Instr.descriptor, Instr.opcode, Instr.operand, Operand.mode, encode, Operand.bytes]
theorem pha : Statement .pha := by
  intro _
  simp [Instr.descriptor, Instr.opcode, Instr.operand, Operand.mode, encode, Operand.bytes]
theorem pla : Statement .pla := by
  intro _
  simp [Instr.descriptor, Instr.opcode, Instr.operand, Operand.mode, encode, Operand.bytes]
theorem php : Statement .php := by
  intro _
  simp [Instr.descriptor, Instr.opcode, Instr.operand, Operand.mode, encode, Operand.bytes]
theorem plp : Statement .plp := by
  intro _
  simp [Instr.descriptor, Instr.opcode, Instr.operand, Operand.mode, encode, Operand.bytes]
theorem tsx : Statement .tsx := by
  intro _
  simp [Instr.descriptor, Instr.opcode, Instr.operand, Operand.mode, encode, Operand.bytes]
theorem txs : Statement .txs := by
  intro _
  simp [Instr.descriptor, Instr.opcode, Instr.operand, Operand.mode, encode, Operand.bytes]
theorem tax : Statement .tax := by
  intro _
  simp [Instr.descriptor, Instr.opcode, Instr.operand, Operand.mode, encode, Operand.bytes]
theorem tay : Statement .tay := by
  intro _
  simp [Instr.descriptor, Instr.opcode, Instr.operand, Operand.mode, encode, Operand.bytes]
theorem txa : Statement .txa := by
  intro _
  simp [Instr.descriptor, Instr.opcode, Instr.operand, Operand.mode, encode, Operand.bytes]
theorem tya : Statement .tya := by
  intro _
  simp [Instr.descriptor, Instr.opcode, Instr.operand, Operand.mode, encode, Operand.bytes]
theorem clc : Statement .clc := by
  intro _
  simp [Instr.descriptor, Instr.opcode, Instr.operand, Operand.mode, encode, Operand.bytes]
theorem sec : Statement .sec := by
  intro _
  simp [Instr.descriptor, Instr.opcode, Instr.operand, Operand.mode, encode, Operand.bytes]
theorem cli : Statement .cli := by
  intro _
  simp [Instr.descriptor, Instr.opcode, Instr.operand, Operand.mode, encode, Operand.bytes]
theorem sei : Statement .sei := by
  intro _
  simp [Instr.descriptor, Instr.opcode, Instr.operand, Operand.mode, encode, Operand.bytes]
theorem cld : Statement .cld := by
  intro _
  simp [Instr.descriptor, Instr.opcode, Instr.operand, Operand.mode, encode, Operand.bytes]
theorem sed : Statement .sed := by
  intro _
  simp [Instr.descriptor, Instr.opcode, Instr.operand, Operand.mode, encode, Operand.bytes]
theorem clv : Statement .clv := by
  intro _
  simp [Instr.descriptor, Instr.opcode, Instr.operand, Operand.mode, encode, Operand.bytes]
theorem nop : Statement .nop := by
  intro _
  simp [Instr.descriptor, Instr.opcode, Instr.operand, Operand.mode, encode, Operand.bytes]

theorem ill (opcode : Byte) : Statement (.ill opcode) := by
  intro h
  have hm : opcode ∈ undocumentedOpcodes := List.contains_iff_mem.mp h
  simp only [Instr.descriptor, Instr.opcode, lookup, lookupRow_undocumented hm]
  exact ⟨rfl, rfl⟩

end Sys2Proof.Laws.EncodedForm
end

