-- ==== Sys2Proof/Tests/Slice0.lean ====
section
/-! SUPPORT. Tests: the well-formedness check, decoding, the vectors of spec/95_test_vectors.md one step each, and for
every statement with hypotheses a named witness that meets them. Expected values are the spec's. -/

set_option Elab.async false

namespace Sys2Proof.Tests

open Sys2Proof.Machine Sys2Proof.Claims Sys2Proof.Safety

/-! ### Well-formedness -/

/-- The one check refuses a documented opcode byte as `ill`; R92 lists 0x02 and 0xFF and neither 0xA9 nor 0x00. -/
theorem test_wellFormed_refuses_documented_byte :
    (Instr.ill 0xA9).wellFormed = false ∧ (Instr.ill 0x00).wellFormed = false ∧
      (Instr.ill 0x02).wellFormed = true ∧ (Instr.ill 0xFF).wellFormed = true ∧
      (Instr.ldaImm 0xFF).wellFormed = true := by decide

/-! ### Decoding: words written out from the tables of R90 and R92 and the formats of R81 and R86 -/

/-- Each word decodes to its instruction and leaves the byte after it; the encoder gives the word back. -/
abbrev wordsDecode (words : List (List Byte × Instr)) : Bool :=
  words.all fun p => (match decode (p.1 ++ [0x77]) with
    | .ok r => decide (r = (p.2, [0x77]))
    | .error _ => false) && decide (encode p.2 = p.1)

/-- Every row of spec/41 in the table of R90. -/
theorem test_decode_loads_and_stores : wordsDecode [
    ([0x81, 0xC4], .staIzx 0xC4), ([0x84, 0xC4], .styZp 0xC4), ([0x85, 0xC4], .staZp 0xC4),
    ([0x86, 0xC4], .stxZp 0xC4), ([0x8C, 0x34, 0x12], .styAbs 0x1234), ([0x8D, 0x34, 0x12], .staAbs 0x1234),
    ([0x8E, 0x34, 0x12], .stxAbs 0x1234), ([0x91, 0xC4], .staIzy 0xC4), ([0x94, 0xC4], .styZpx 0xC4),
    ([0x95, 0xC4], .staZpx 0xC4), ([0x96, 0xC4], .stxZpy 0xC4), ([0x99, 0x34, 0x12], .staAby 0x1234),
    ([0x9D, 0x34, 0x12], .staAbx 0x1234), ([0xA0, 0xC4], .ldyImm 0xC4), ([0xA1, 0xC4], .ldaIzx 0xC4),
    ([0xA2, 0xC4], .ldxImm 0xC4), ([0xA4, 0xC4], .ldyZp 0xC4), ([0xA5, 0xC4], .ldaZp 0xC4),
    ([0xA6, 0xC4], .ldxZp 0xC4), ([0xA9, 0xC4], .ldaImm 0xC4), ([0xAC, 0x34, 0x12], .ldyAbs 0x1234),
    ([0xAD, 0x34, 0x12], .ldaAbs 0x1234), ([0xAE, 0x34, 0x12], .ldxAbs 0x1234), ([0xB1, 0xC4], .ldaIzy 0xC4),
    ([0xB4, 0xC4], .ldyZpx 0xC4), ([0xB5, 0xC4], .ldaZpx 0xC4), ([0xB6, 0xC4], .ldxZpy 0xC4),
    ([0xB9, 0x34, 0x12], .ldaAby 0x1234), ([0xBC, 0x34, 0x12], .ldyAbx 0x1234),
    ([0xBD, 0x34, 0x12], .ldaAbx 0x1234), ([0xBE, 0x34, 0x12], .ldxAby 0x1234)] = true := by decide +kernel

/-- Every row of spec/42 in the table of R90. -/
theorem test_decode_arithmetic : wordsDecode [
    ([0x61, 0xC4], .adcIzx 0xC4), ([0x65, 0xC4], .adcZp 0xC4), ([0x69, 0xC4], .adcImm 0xC4),
    ([0x6D, 0x34, 0x12], .adcAbs 0x1234), ([0x71, 0xC4], .adcIzy 0xC4), ([0x75, 0xC4], .adcZpx 0xC4),
    ([0x79, 0x34, 0x12], .adcAby 0x1234), ([0x7D, 0x34, 0x12], .adcAbx 0x1234), ([0x88], .dey),
    ([0xC6, 0xC4], .decZp 0xC4), ([0xC8], .iny), ([0xCA], .dex), ([0xCE, 0x34, 0x12], .decAbs 0x1234),
    ([0xD6, 0xC4], .decZpx 0xC4), ([0xDE, 0x34, 0x12], .decAbx 0x1234), ([0xE1, 0xC4], .sbcIzx 0xC4),
    ([0xE5, 0xC4], .sbcZp 0xC4), ([0xE6, 0xC4], .incZp 0xC4), ([0xE8], .inx), ([0xE9, 0xC4], .sbcImm 0xC4),
    ([0xED, 0x34, 0x12], .sbcAbs 0x1234), ([0xEE, 0x34, 0x12], .incAbs 0x1234), ([0xF1, 0xC4], .sbcIzy 0xC4),
    ([0xF5, 0xC4], .sbcZpx 0xC4), ([0xF6, 0xC4], .incZpx 0xC4), ([0xF9, 0x34, 0x12], .sbcAby 0x1234),
    ([0xFD, 0x34, 0x12], .sbcAbx 0x1234), ([0xFE, 0x34, 0x12], .incAbx 0x1234)] = true := by decide +kernel

/-- Every row of spec/43 in the table of R90. -/
theorem test_decode_logic : wordsDecode [
    ([0x01, 0xC4], .oraIzx 0xC4), ([0x05, 0xC4], .oraZp 0xC4), ([0x09, 0xC4], .oraImm 0xC4),
    ([0x0D, 0x34, 0x12], .oraAbs 0x1234), ([0x11, 0xC4], .oraIzy 0xC4), ([0x15, 0xC4], .oraZpx 0xC4),
    ([0x19, 0x34, 0x12], .oraAby 0x1234), ([0x1D, 0x34, 0x12], .oraAbx 0x1234), ([0x21, 0xC4], .andIzx 0xC4),
    ([0x24, 0xC4], .bitZp 0xC4), ([0x25, 0xC4], .andZp 0xC4), ([0x29, 0xC4], .andImm 0xC4),
    ([0x2C, 0x34, 0x12], .bitAbs 0x1234), ([0x2D, 0x34, 0x12], .andAbs 0x1234), ([0x31, 0xC4], .andIzy 0xC4),
    ([0x35, 0xC4], .andZpx 0xC4), ([0x39, 0x34, 0x12], .andAby 0x1234), ([0x3D, 0x34, 0x12], .andAbx 0x1234),
    ([0x41, 0xC4], .eorIzx 0xC4), ([0x45, 0xC4], .eorZp 0xC4), ([0x49, 0xC4], .eorImm 0xC4),
    ([0x4D, 0x34, 0x12], .eorAbs 0x1234), ([0x51, 0xC4], .eorIzy 0xC4), ([0x55, 0xC4], .eorZpx 0xC4),
    ([0x59, 0x34, 0x12], .eorAby 0x1234), ([0x5D, 0x34, 0x12], .eorAbx 0x1234)] = true := by decide +kernel

/-- Every row of spec/44 in the table of R90. -/
theorem test_decode_shifts : wordsDecode [
    ([0x06, 0xC4], .aslZp 0xC4), ([0x0A], .aslAcc), ([0x0E, 0x34, 0x12], .aslAbs 0x1234),
    ([0x16, 0xC4], .aslZpx 0xC4), ([0x1E, 0x34, 0x12], .aslAbx 0x1234), ([0x26, 0xC4], .rolZp 0xC4),
    ([0x2A], .rolAcc), ([0x2E, 0x34, 0x12], .rolAbs 0x1234), ([0x36, 0xC4], .rolZpx 0xC4),
    ([0x3E, 0x34, 0x12], .rolAbx 0x1234), ([0x46, 0xC4], .lsrZp 0xC4), ([0x4A], .lsrAcc),
    ([0x4E, 0x34, 0x12], .lsrAbs 0x1234), ([0x56, 0xC4], .lsrZpx 0xC4), ([0x5E, 0x34, 0x12], .lsrAbx 0x1234),
    ([0x66, 0xC4], .rorZp 0xC4), ([0x6A], .rorAcc), ([0x6E, 0x34, 0x12], .rorAbs 0x1234),
    ([0x76, 0xC4], .rorZpx 0xC4), ([0x7E, 0x34, 0x12], .rorAbx 0x1234)] = true := by decide +kernel

/-- Every row of spec/45 in the table of R90. -/
theorem test_decode_compares : wordsDecode [
    ([0xC0, 0xC4], .cpyImm 0xC4), ([0xC1, 0xC4], .cmpIzx 0xC4), ([0xC4, 0xC4], .cpyZp 0xC4),
    ([0xC5, 0xC4], .cmpZp 0xC4), ([0xC9, 0xC4], .cmpImm 0xC4), ([0xCC, 0x34, 0x12], .cpyAbs 0x1234),
    ([0xCD, 0x34, 0x12], .cmpAbs 0x1234), ([0xD1, 0xC4], .cmpIzy 0xC4), ([0xD5, 0xC4], .cmpZpx 0xC4),
    ([0xD9, 0x34, 0x12], .cmpAby 0x1234), ([0xDD, 0x34, 0x12], .cmpAbx 0x1234), ([0xE0, 0xC4], .cpxImm 0xC4),
    ([0xE4, 0xC4], .cpxZp 0xC4), ([0xEC, 0x34, 0x12], .cpxAbs 0x1234)] = true := by decide +kernel

/-- Every row of spec/46 in the table of R90. -/
theorem test_decode_branches : wordsDecode [
    ([0x10, 0xC4], .bpl 0xC4), ([0x30, 0xC4], .bmi 0xC4), ([0x50, 0xC4], .bvc 0xC4), ([0x70, 0xC4], .bvs 0xC4),
    ([0x90, 0xC4], .bcc 0xC4), ([0xB0, 0xC4], .bcs 0xC4), ([0xD0, 0xC4], .bne 0xC4), ([0xF0, 0xC4], .beq 0xC4)] = true := by
  decide +kernel

/-- Every row of spec/47 in the table of R90. -/
theorem test_decode_jumps_and_calls : wordsDecode [
    ([0x00], .brk), ([0x20, 0x34, 0x12], .jsr 0x1234), ([0x40], .rti), ([0x4C, 0x34, 0x12], .jmpAbs 0x1234),
    ([0x60], .rts), ([0x6C, 0x34, 0x12], .jmpInd 0x1234)] = true := by decide +kernel

/-- Every row of spec/48 in the table of R90. -/
theorem test_decode_stack_transfers_flags : wordsDecode [
    ([0x08], .php), ([0x18], .clc), ([0x28], .plp), ([0x38], .sec), ([0x48], .pha), ([0x58], .cli),
    ([0x68], .pla), ([0x78], .sei), ([0x8A], .txa), ([0x98], .tya), ([0x9A], .txs), ([0xA8], .tay),
    ([0xAA], .tax), ([0xB8], .clv), ([0xBA], .tsx), ([0xD8], .cld), ([0xEA], .nop), ([0xF8], .sed)] = true := by
  decide +kernel

/-- The 105 bytes of R92, each a one-byte instruction. -/
theorem test_decode_undocumented :
    wordsDecode (undocumentedOpcodes.map fun op => ([op], .ill op)) = true ∧ undocumentedOpcodes.length = 105 := by
  decide +kernel

/-- Missing bytes are refused by name, and only they are. -/
theorem test_decode_refuses_missing_bytes :
    decode [] = .error .noOpcode ∧ decode [0x8D, 0x00] = .error (.missingOperand 0x8D) ∧
      decode [0xA9] = .error (.missingOperand 0xA9) := by decide +kernel

/-- Table words: the first byte is bits 7 to 0, and the bits above `nbits` are zero. -/
theorem test_decodeTableWord :
    decodeTableWord 8 0xA9 = some (.ldaImm 0x00) ∧ decodeTableWord 16 0x05A9 = some (.ldaImm 0x05) ∧
      decodeTableWord 24 0x02008D = some (.staAbs 0x0200) ∧ decodeTableWord 8 0x05A9 = some (.ldaImm 0x00) ∧
      decodeTableWord 8 0x02 = some (.ill 0x02) := by decide +kernel

/-! ### One step: the vectors T1 to T121 of spec/95_test_vectors.md, at most two a mnemonic -/

/-- RAM holding the given cells, 0x00 elsewhere ("plain RAM" of spec/95_test_vectors.md). -/
def ram (cells : List (Nat × Byte)) : Memory := cells.foldl (fun m p => m.write p.1 p.2) []

/-- The default state of the test vectors: A = X = Y = 0, S = 0xFD, only I set, Running, no request pending, the
instruction bytes at `pc` and the listed cells in RAM. -/
def ramState (pc : Word) (bytes : List Byte) (cells : List (Nat × Byte)) : State :=
  { State.reset with sp := 0xFD, i := true, fsm := .running, pc := pc, mem := placeBytes bytes pc (ram cells) }

/-- One step answers a next state that shows these registers, status byte, outputs and bus accesses. -/
abbrev stepShows (s : State) (a x y sp : Byte) (pc : Word) (p : Byte) (cycles : Nat) (illegalOp : Bool)
    (bus : List BusAccess) : Bool :=
  match step s with
  | .next t => decide ((t.a, t.x, t.y, t.sp, t.pc, statusByte t) = (a, x, y, sp, pc, p)) &&
      decide ((t.cycles, t.illegalOp, t.bus) = (cycles, illegalOp, bus))
  | _ => false

/-- What else a step leaves: FSM, the two request latches and CYC. -/
abbrev stepLeaves (s : State) (fsm : Fsm) (nmi irq : Bool) (cyc : Nat) : Bool :=
  match step s with
  | .next t => decide ((t.fsm, t.nmiPend, t.irqPend, t.cyc) = (fsm, nmi, irq, cyc))
  | _ => false

/-- The placed word is what the very next step runs: LDA #$00 at power-up, PC 0x0000. -/
theorem test_withFetchWord : stepShows (State.reset.withFetchWord 8 0xA9)
    0x00 0x00 0x00 0x00 0x0002 0x22 2 false
    [.read 0x0000 0xA9, .read 0x0001 0x00] = true := by decide +kernel

/-- T7: LDA abs,Y wraps 0xFFFF+1 to 0x0000, crossed. -/
theorem test_lda_T7 : stepShows { ramState 0x8000 [0xB9, 0xFF, 0xFF] [(0x0000, 0x99)] with y := 0x01 }
    0x99 0x00 0x01 0xFD 0x8003 0xA4 5 false
    [.read 0x8000 0xB9, .read 0x8001 0xFF, .read 0x8002 0xFF, .read 0x0000 0x99] = true := by decide +kernel

/-- T9: (zp),Y pointer at $FF wraps; base 02FF+1 crossed: 5+1. -/
theorem test_lda_T9 :
    stepShows { ramState 0x8000 [0xB1, 0xFF] [(0x00FF, 0xFF), (0x0000, 0x02), (0x0100, 0x09), (0x0300, 0x6B)] with y := 0x01 }
    0x6B 0x00 0x01 0xFD 0x8002 0x24 6 false
    [.read 0x8000 0xB1, .read 0x8001 0xFF, .read 0x00FF 0xFF, .read 0x0000 0x02, .read 0x0300 0x6B] = true := by
  decide +kernel

/-- T10: LDX zp,Y. -/
theorem test_ldx_T10 : stepShows { ramState 0x8000 [0xB6, 0xF0] [(0x0010, 0x80)] with y := 0x20 }
    0x00 0x80 0x20 0xFD 0x8002 0xA4 4 false
    [.read 0x8000 0xB6, .read 0x8001 0xF0, .read 0x0010 0x80] = true := by decide +kernel

/-- T11: LDX abs,Y no crossing. -/
theorem test_ldx_T11 : stepShows { ramState 0x8000 [0xBE, 0x00, 0x20] [(0x20FF, 0x01)] with y := 0xFF }
    0x00 0x01 0xFF 0xFD 0x8003 0x24 4 false
    [.read 0x8000 0xBE, .read 0x8001 0x00, .read 0x8002 0x20, .read 0x20FF 0x01] = true := by decide +kernel

/-- T12: LDY abs,X crossed, loads 0. -/
theorem test_ldy_T12 : stepShows { ramState 0x8000 [0xBC, 0x80, 0x20] [(0x2100, 0x00)] with x := 0x80 }
    0x00 0x80 0x00 0xFD 0x8003 0x26 5 false
    [.read 0x8000 0xBC, .read 0x8001 0x80, .read 0x8002 0x20, .read 0x2100 0x00] = true := by decide +kernel

/-- T14: STA abs,X crossed: still 5. -/
theorem test_sta_T14 : stepShows { ramState 0x8000 [0x9D, 0xF0, 0x12] [] with a := 0x77, x := 0x20 }
    0x77 0x20 0x00 0xFD 0x8003 0x24 5 false
    [.read 0x8000 0x9D, .read 0x8001 0xF0, .read 0x8002 0x12, .write 0x1310 0x77] = true := by decide +kernel

/-- T15: STA (zp),Y crossed: still 6. -/
theorem test_sta_T15 :
    stepShows { ramState 0x8000 [0x91, 0x20] [(0x0020, 0xF8), (0x0021, 0x40)] with a := 0x33, y := 0x10 }
    0x33 0x00 0x10 0xFD 0x8002 0x24 6 false
    [.read 0x8000 0x91, .read 0x8001 0x20, .read 0x0020 0xF8, .read 0x0021 0x40, .write 0x4108 0x33] = true := by
  decide +kernel

/-- T17: STX zp,Y wraps. -/
theorem test_stx_T17 : stepShows { ramState 0x8000 [0x96, 0xF0] [] with x := 0xAB, y := 0x20 }
    0x00 0xAB 0x20 0xFD 0x8002 0x24 4 false
    [.read 0x8000 0x96, .read 0x8001 0xF0, .write 0x0010 0xAB] = true := by decide +kernel

/-- T18: STY abs. -/
theorem test_sty_T18 : stepShows { ramState 0x8000 [0x8C, 0x34, 0x12] [] with y := 0xCD }
    0x00 0x00 0xCD 0xFD 0x8003 0x24 4 false
    [.read 0x8000 0x8C, .read 0x8001 0x34, .read 0x8002 0x12, .write 0x1234 0xCD] = true := by decide +kernel

/-- T22: C, V, Z together. -/
theorem test_adc_T22 : stepShows { ramState 0x8000 [0x69, 0x80] [] with a := 0x80 }
    0x00 0x00 0x00 0xFD 0x8002 0x67 2 false
    [.read 0x8000 0x69, .read 0x8001 0x80] = true := by decide +kernel

/-- T24: D=1: still binary, 0x12. -/
theorem test_adc_T24 : stepShows { ramState 0x8000 [0x69, 0x09] [] with a := 0x09, d := true }
    0x12 0x00 0x00 0xFD 0x8002 0x2C 2 false
    [.read 0x8000 0x69, .read 0x8001 0x09] = true := by decide +kernel

/-- T28: signed overflow. -/
theorem test_sbc_T28 : stepShows { ramState 0x8000 [0xE9, 0x01] [] with a := 0x80, c := true }
    0x7F 0x00 0x00 0xFD 0x8002 0x65 2 false
    [.read 0x8000 0xE9, .read 0x8001 0x01] = true := by decide +kernel

/-- T29: pending borrow. -/
theorem test_sbc_T29 : stepShows { ramState 0x8000 [0xE9, 0x05] [] with a := 0x05 }
    0xFF 0x00 0x00 0xFD 0x8002 0xA4 2 false
    [.read 0x8000 0xE9, .read 0x8001 0x05] = true := by decide +kernel

/-- T32: INC wraps to 0; C untouched. -/
theorem test_inc_T32 : stepShows (ramState 0x8000 [0xE6, 0x10] [(0x0010, 0xFF)])
    0x00 0x00 0x00 0xFD 0x8002 0x26 5 false
    [.read 0x8000 0xE6, .read 0x8001 0x10, .read 0x0010 0xFF, .write 0x0010 0x00] = true := by decide +kernel

/-- T33: INC abs,X: 7 cycles, crossed ignored. -/
theorem test_inc_T33 : stepShows { ramState 0x8000 [0xFE, 0xF0, 0x12] [(0x1310, 0x7F)] with x := 0x20 }
    0x00 0x20 0x00 0xFD 0x8003 0xA4 7 false
    [.read 0x8000 0xFE, .read 0x8001 0xF0, .read 0x8002 0x12, .read 0x1310 0x7F, .write 0x1310 0x80] = true := by
  decide +kernel

/-- T34: DEC wraps to FF. -/
theorem test_dec_T34 : stepShows (ramState 0x8000 [0xC6, 0x10] [(0x0010, 0x00)])
    0x00 0x00 0x00 0xFD 0x8002 0xA4 5 false
    [.read 0x8000 0xC6, .read 0x8001 0x10, .read 0x0010 0x00, .write 0x0010 0xFF] = true := by decide +kernel

/-- T35: DEC to zero. -/
theorem test_dec_T35 : stepShows (ramState 0x8000 [0xCE, 0x00, 0x03] [(0x0300, 0x01)])
    0x00 0x00 0x00 0xFD 0x8003 0x26 6 false
    [.read 0x8000 0xCE, .read 0x8001 0x00, .read 0x8002 0x03, .read 0x0300 0x01, .write 0x0300 0x00] = true := by
  decide +kernel

/-- T36. -/
theorem test_inx_T36 : stepShows { ramState 0x8000 [0xE8] [] with x := 0xFF }
    0x00 0x00 0x00 0xFD 0x8001 0x26 2 false
    [.read 0x8000 0xE8] = true := by decide +kernel

/-- T37. -/
theorem test_iny_T37 : stepShows { ramState 0x8000 [0xC8] [] with y := 0x7F }
    0x00 0x00 0x80 0xFD 0x8001 0xA4 2 false
    [.read 0x8000 0xC8] = true := by decide +kernel

/-- T38. -/
theorem test_dex_T38 : stepShows (ramState 0x8000 [0xCA] [])
    0x00 0xFF 0x00 0xFD 0x8001 0xA4 2 false
    [.read 0x8000 0xCA] = true := by decide +kernel

/-- T39. -/
theorem test_dey_T39 : stepShows { ramState 0x8000 [0x88] [] with y := 0x01 }
    0x00 0x00 0x00 0xFD 0x8001 0x26 2 false
    [.read 0x8000 0x88] = true := by decide +kernel

/-- T40: AND to zero. -/
theorem test_and_T40 : stepShows { ramState 0x8000 [0x29, 0x0F] [] with a := 0xF0 }
    0x00 0x00 0x00 0xFD 0x8002 0x26 2 false
    [.read 0x8000 0x29, .read 0x8001 0x0F] = true := by decide +kernel

/-- T41. -/
theorem test_and_T41 : stepShows { ramState 0x8000 [0x25, 0x10] [(0x0010, 0x80)] with a := 0xFF }
    0x80 0x00 0x00 0xFD 0x8002 0xA4 3 false
    [.read 0x8000 0x25, .read 0x8001 0x10, .read 0x0010 0x80] = true := by decide +kernel

/-- T42. -/
theorem test_ora_T42 : stepShows { ramState 0x8000 [0x09, 0x80] [] with a := 0x01 }
    0x81 0x00 0x00 0xFD 0x8002 0xA4 2 false
    [.read 0x8000 0x09, .read 0x8001 0x80] = true := by decide +kernel

/-- T43. -/
theorem test_ora_T43 : stepShows (ramState 0x8000 [0x09, 0x00] [])
    0x00 0x00 0x00 0xFD 0x8002 0x26 2 false
    [.read 0x8000 0x09, .read 0x8001 0x00] = true := by decide +kernel

/-- T44. -/
theorem test_eor_T44 : stepShows { ramState 0x8000 [0x49, 0xFF] [] with a := 0xFF }
    0x00 0x00 0x00 0xFD 0x8002 0x26 2 false
    [.read 0x8000 0x49, .read 0x8001 0xFF] = true := by decide +kernel

/-- T45. -/
theorem test_eor_T45 : stepShows { ramState 0x8000 [0x49, 0xFF] [] with a := 0x0F }
    0xF0 0x00 0x00 0xFD 0x8002 0xA4 2 false
    [.read 0x8000 0x49, .read 0x8001 0xFF] = true := by decide +kernel

/-- T46: BIT: Z from A&M, N,V from M. -/
theorem test_bit_T46 : stepShows { ramState 0x8000 [0x24, 0x10] [(0x0010, 0xC0)] with a := 0x01 }
    0x01 0x00 0x00 0xFD 0x8002 0xE6 3 false
    [.read 0x8000 0x24, .read 0x8001 0x10, .read 0x0010 0xC0] = true := by decide +kernel

/-- T47: BIT clears N,V; Z=0. -/
theorem test_bit_T47 :
    stepShows { ramState 0x8000 [0x2C, 0x00, 0x03] [(0x0300, 0x3F)] with a := 0xFF, v := true, n := true }
    0xFF 0x00 0x00 0xFD 0x8003 0x24 4 false
    [.read 0x8000 0x2C, .read 0x8001 0x00, .read 0x8002 0x03, .read 0x0300 0x3F] = true := by decide +kernel

/-- T50: to zero with carry. -/
theorem test_asl_T50 : stepShows { ramState 0x8000 [0x0A] [] with a := 0x80 }
    0x00 0x00 0x00 0xFD 0x8001 0x27 2 false
    [.read 0x8000 0x0A] = true := by decide +kernel

/-- T52: ASL abs,X: 7 cycles. -/
theorem test_asl_T52 : stepShows { ramState 0x8000 [0x1E, 0xF0, 0x12] [(0x1310, 0x01)] with x := 0x20 }
    0x00 0x20 0x00 0xFD 0x8003 0x24 7 false
    [.read 0x8000 0x1E, .read 0x8001 0xF0, .read 0x8002 0x12, .read 0x1310 0x01, .write 0x1310 0x02] = true := by
  decide +kernel

/-- T54: old C discarded. -/
theorem test_lsr_T54 : stepShows { ramState 0x8000 [0x4A] [] with a := 0x80, c := true }
    0x40 0x00 0x00 0xFD 0x8001 0x24 2 false
    [.read 0x8000 0x4A] = true := by decide +kernel

/-- T55. -/
theorem test_lsr_T55 : stepShows (ramState 0x8000 [0x4E, 0x00, 0x03] [(0x0300, 0xFF)])
    0x00 0x00 0x00 0xFD 0x8003 0x25 6 false
    [.read 0x8000 0x4E, .read 0x8001 0x00, .read 0x8002 0x03, .read 0x0300 0xFF, .write 0x0300 0x7F] = true := by
  decide +kernel

/-- T57. -/
theorem test_rol_T57 : stepShows { ramState 0x8000 [0x2A] [] with a := 0x80 }
    0x00 0x00 0x00 0xFD 0x8001 0x27 2 false
    [.read 0x8000 0x2A] = true := by decide +kernel

/-- T58. -/
theorem test_rol_T58 : stepShows { ramState 0x8000 [0x26, 0x10] [(0x0010, 0x00)] with c := true }
    0x00 0x00 0x00 0xFD 0x8002 0x24 5 false
    [.read 0x8000 0x26, .read 0x8001 0x10, .read 0x0010 0x00, .write 0x0010 0x01] = true := by decide +kernel

/-- T60. -/
theorem test_ror_T60 : stepShows { ramState 0x8000 [0x6A] [] with c := true }
    0x80 0x00 0x00 0xFD 0x8001 0xA4 2 false
    [.read 0x8000 0x6A] = true := by decide +kernel

/-- T62: ROR zp,X: 6 cycles. -/
theorem test_ror_T62 : stepShows { ramState 0x8000 [0x76, 0x20] [(0x0021, 0x03)] with x := 0x01, c := true }
    0x00 0x01 0x00 0xFD 0x8002 0xA5 6 false
    [.read 0x8000 0x76, .read 0x8001 0x20, .read 0x0021 0x03, .write 0x0021 0x81] = true := by decide +kernel

/-- T64: V untouched; carry-in ignored. -/
theorem test_cmp_T64 : stepShows { ramState 0x8000 [0xC9, 0x05] [] with a := 0x05, v := true }
    0x05 0x00 0x00 0xFD 0x8002 0x67 2 false
    [.read 0x8000 0xC9, .read 0x8001 0x05] = true := by decide +kernel

/-- T68: CMP (zp),Y crossed: 6. -/
theorem test_cmp_T68 :
    stepShows { ramState 0x8000 [0xD1, 0x20] [(0x0020, 0xF8), (0x0021, 0x40), (0x4108, 0x10)] with a := 0x10, y := 0x10 }
    0x10 0x00 0x10 0xFD 0x8002 0x27 6 false
    [.read 0x8000 0xD1, .read 0x8001 0x20, .read 0x0020 0xF8, .read 0x0021 0x40, .read 0x4108 0x10] = true := by
  decide +kernel

/-- T69. -/
theorem test_cpx_T69 : stepShows { ramState 0x8000 [0xE0, 0x10] [] with x := 0x0F }
    0x00 0x0F 0x00 0xFD 0x8002 0xA4 2 false
    [.read 0x8000 0xE0, .read 0x8001 0x10] = true := by decide +kernel

/-- T70. -/
theorem test_cpx_T70 : stepShows { ramState 0x8000 [0xE4, 0x10] [(0x0010, 0x00)] with x := 0xFF }
    0x00 0xFF 0x00 0xFD 0x8002 0xA5 3 false
    [.read 0x8000 0xE4, .read 0x8001 0x10, .read 0x0010 0x00] = true := by decide +kernel

/-- T71. -/
theorem test_cpy_T71 : stepShows { ramState 0x8000 [0xC0, 0x03] [] with y := 0x05 }
    0x00 0x00 0x05 0xFD 0x8002 0x25 2 false
    [.read 0x8000 0xC0, .read 0x8001 0x03] = true := by decide +kernel

/-- T72. -/
theorem test_cpy_T72 : stepShows (ramState 0x8000 [0xCC, 0x00, 0x03] [(0x0300, 0x00)])
    0x00 0x00 0x00 0xFD 0x8003 0x27 4 false
    [.read 0x8000 0xCC, .read 0x8001 0x00, .read 0x8002 0x03, .read 0x0300 0x00] = true := by decide +kernel

/-- T73: taken, page crossed: 4. -/
theorem test_bcc_T73 : stepShows (ramState 0x80F0 [0x90, 0x10] [])
    0x00 0x00 0x00 0xFD 0x8102 0x24 4 false
    [.read 0x80F0 0x90, .read 0x80F1 0x10] = true := by decide +kernel

/-- T74: not taken: 2. -/
theorem test_bcc_T74 : stepShows { ramState 0x80F0 [0x90, 0x10] [] with c := true }
    0x00 0x00 0x00 0xFD 0x80F2 0x25 2 false
    [.read 0x80F0 0x90, .read 0x80F1 0x10] = true := by decide +kernel

/-- T75. -/
theorem test_bcs_T75 : stepShows { ramState 0x8000 [0xB0, 0x02] [] with c := true }
    0x00 0x00 0x00 0xFD 0x8004 0x25 3 false
    [.read 0x8000 0xB0, .read 0x8001 0x02] = true := by decide +kernel

/-- T76: source BEQ scenario. -/
theorem test_beq_T76 : stepShows { ramState 0x8004 [0xF0, 0x03] [] with z := true }
    0x00 0x00 0x00 0xFD 0x8009 0x26 3 false
    [.read 0x8004 0xF0, .read 0x8005 0x03] = true := by decide +kernel

/-- T78: backward. -/
theorem test_bne_T78 : stepShows (ramState 0x8005 [0xD0, 0xFB] [])
    0x00 0x00 0x00 0xFD 0x8002 0x24 3 false
    [.read 0x8005 0xD0, .read 0x8006 0xFB] = true := by decide +kernel

/-- T79. -/
theorem test_bmi_T79 : stepShows { ramState 0x1000 [0x30, 0x7F] [] with n := true }
    0x00 0x00 0x00 0xFD 0x1081 0xA4 3 false
    [.read 0x1000 0x30, .read 0x1001 0x7F] = true := by decide +kernel

/-- T80: backward across page: 4. -/
theorem test_bpl_T80 : stepShows (ramState 0x1000 [0x10, 0x80] [])
    0x00 0x00 0x00 0xFD 0x0F82 0x24 4 false
    [.read 0x1000 0x10, .read 0x1001 0x80] = true := by decide +kernel

/-- T81: offset 0, taken: 3. -/
theorem test_bvc_T81 : stepShows (ramState 0x2000 [0x50, 0x00] [])
    0x00 0x00 0x00 0xFD 0x2002 0x24 3 false
    [.read 0x2000 0x50, .read 0x2001 0x00] = true := by decide +kernel

/-- T82: branch to self. -/
theorem test_bvs_T82 : stepShows { ramState 0x3000 [0x70, 0xFE] [] with v := true }
    0x00 0x00 0x00 0xFD 0x3000 0x64 3 false
    [.read 0x3000 0x70, .read 0x3001 0xFE] = true := by decide +kernel

/-- T83: target wraps past 0xFFFF: 0xFFF2+0x7F=0x0071, crossed. -/
theorem test_bne_T83 : stepShows (ramState 0xFFF0 [0xD0, 0x7F] [])
    0x00 0x00 0x00 0xFD 0x0071 0x24 4 false
    [.read 0xFFF0 0xD0, .read 0xFFF1 0x7F] = true := by decide +kernel

/-- T84: base 0x8100, target 0x80FD: crossed. -/
theorem test_beq_T84 : stepShows { ramState 0x80FE [0xF0, 0xFD] [] with z := true }
    0x00 0x00 0x00 0xFD 0x80FD 0x26 4 false
    [.read 0x80FE 0xF0, .read 0x80FF 0xFD] = true := by decide +kernel

/-- T85. -/
theorem test_jmp_T85 : stepShows (ramState 0x8000 [0x4C, 0x00, 0x90] [])
    0x00 0x00 0x00 0xFD 0x9000 0x24 3 false
    [.read 0x8000 0x4C, .read 0x8001 0x00, .read 0x8002 0x90] = true := by decide +kernel

/-- T86: page-wrap bug. -/
theorem test_jmp_T86 : stepShows (ramState 0x8000 [0x6C, 0xFF, 0x02] [(0x02FF, 0x34), (0x0200, 0x12), (0x0300, 0x56)])
    0x00 0x00 0x00 0xFD 0x1234 0x24 5 false
    [.read 0x8000 0x6C, .read 0x8001 0xFF, .read 0x8002 0x02, .read 0x02FF 0x34, .read 0x0200 0x12] = true := by
  decide +kernel

/-- T88. -/
theorem test_jsr_T88 : stepShows (ramState 0x8000 [0x20, 0x00, 0x90] [])
    0x00 0x00 0x00 0xFB 0x9000 0x24 6 false
    [.read 0x8000 0x20, .read 0x8001 0x00, .read 0x8002 0x90, .write 0x01FD 0x80, .write 0x01FC 0x02] = true := by
  decide +kernel

/-- T89: stack wrap: 0x0100 then 0x01FF. -/
theorem test_jsr_T89 : stepShows { ramState 0x8000 [0x20, 0x00, 0x90] [] with sp := 0x00 }
    0x00 0x00 0x00 0xFE 0x9000 0x24 6 false
    [.read 0x8000 0x20, .read 0x8001 0x00, .read 0x8002 0x90, .write 0x0100 0x80, .write 0x01FF 0x02] = true := by
  decide +kernel

/-- T90. -/
theorem test_rts_T90 : stepShows { ramState 0x8000 [0x60] [(0x01FC, 0x02), (0x01FD, 0x80)] with sp := 0xFB }
    0x00 0x00 0x00 0xFD 0x8003 0x24 6 false
    [.read 0x8000 0x60, .read 0x01FC 0x02, .read 0x01FD 0x80] = true := by decide +kernel

/-- T91: pull wraps; 0xFFFF+1 = 0x0000. -/
theorem test_rts_T91 : stepShows { ramState 0x8000 [0x60] [(0x01FF, 0xFF), (0x0100, 0xFF)] with sp := 0xFE }
    0x00 0x00 0x00 0x00 0x0000 0x24 6 false
    [.read 0x8000 0x60, .read 0x01FF 0xFF, .read 0x0100 0xFF] = true := by decide +kernel

/-- T92. -/
theorem test_brk_T92 : stepShows (ramState 0x8000 [0x00] [(0xFFFE, 0x00), (0xFFFF, 0xA0)])
    0x00 0x00 0x00 0xFA 0xA000 0x24 7 false
    [.read 0x8000 0x00, .write 0x01FD 0x80, .write 0x01FC 0x02, .write 0x01FB 0x34, .read 0xFFFE 0x00, .read 0xFFFF 0xA0] = true := by
  decide +kernel

/-- T93: pushed 0xB9; D kept. -/
theorem test_brk_T93 :
    stepShows { ramState 0x8000 [0x00] [(0xFFFE, 0x34), (0xFFFF, 0x12)] with c := true, i := false, d := true, n := true }
    0x00 0x00 0x00 0xFA 0x1234 0xAD 7 false
    [.read 0x8000 0x00, .write 0x01FD 0x80, .write 0x01FC 0x02, .write 0x01FB 0xB9, .read 0xFFFE 0x34, .read 0xFFFF 0x12] = true := by
  decide +kernel

/-- T94. -/
theorem test_rti_T94 :
    stepShows { ramState 0x8000 [0x40] [(0x01FB, 0x34), (0x01FC, 0x02), (0x01FD, 0x80)] with sp := 0xFA }
    0x00 0x00 0x00 0xFD 0x8002 0x24 6 false
    [.read 0x8000 0x40, .read 0x01FB 0x34, .read 0x01FC 0x02, .read 0x01FD 0x80] = true := by decide +kernel

/-- T95: bits 4,5 ignored: P reads 0xEF. -/
theorem test_rti_T95 :
    stepShows { ramState 0x8000 [0x40] [(0x01FB, 0xFF), (0x01FC, 0x00), (0x01FD, 0x90)] with sp := 0xFA }
    0x00 0x00 0x00 0xFD 0x9000 0xEF 6 false
    [.read 0x8000 0x40, .read 0x01FB 0xFF, .read 0x01FC 0x00, .read 0x01FD 0x90] = true := by decide +kernel

/-- T96. -/
theorem test_pha_T96 : stepShows { ramState 0x8000 [0x48] [] with a := 0x42 }
    0x42 0x00 0x00 0xFC 0x8001 0x24 3 false
    [.read 0x8000 0x48, .write 0x01FD 0x42] = true := by decide +kernel

/-- T97: wrap. -/
theorem test_pha_T97 : stepShows { ramState 0x8000 [0x48] [] with a := 0x42, sp := 0x00 }
    0x42 0x00 0x00 0xFF 0x8001 0x24 3 false
    [.read 0x8000 0x48, .write 0x0100 0x42] = true := by decide +kernel

/-- T98. -/
theorem test_pla_T98 : stepShows { ramState 0x8000 [0x68] [(0x01FD, 0x00)] with sp := 0xFC }
    0x00 0x00 0x00 0xFD 0x8001 0x26 4 false
    [.read 0x8000 0x68, .read 0x01FD 0x00] = true := by decide +kernel

/-- T99: wrap. -/
theorem test_pla_T99 : stepShows { ramState 0x8000 [0x68] [(0x0100, 0x80)] with sp := 0xFF }
    0x80 0x00 0x00 0x00 0x8001 0xA4 4 false
    [.read 0x8000 0x68, .read 0x0100 0x80] = true := by decide +kernel

/-- T100: pushes 0xB5. -/
theorem test_php_T100 : stepShows { ramState 0x8000 [0x08] [] with c := true, n := true }
    0x00 0x00 0x00 0xFC 0x8001 0xA5 3 false
    [.read 0x8000 0x08, .write 0x01FD 0xB5] = true := by decide +kernel

/-- T101: all flags 0: pushes 0x30. -/
theorem test_php_T101 : stepShows { ramState 0x8000 [0x08] [] with i := false }
    0x00 0x00 0x00 0xFC 0x8001 0x20 3 false
    [.read 0x8000 0x08, .write 0x01FD 0x30] = true := by decide +kernel

/-- T102. -/
theorem test_plp_T102 : stepShows { ramState 0x8000 [0x28] [(0x01FD, 0xC3)] with sp := 0xFC }
    0x00 0x00 0x00 0xFD 0x8001 0xE3 4 false
    [.read 0x8000 0x28, .read 0x01FD 0xC3] = true := by decide +kernel

/-- T103: P reads 0x20. -/
theorem test_plp_T103 : stepShows { ramState 0x8000 [0x28] [(0x01FD, 0x00)] with sp := 0xFC }
    0x00 0x00 0x00 0xFD 0x8001 0x20 4 false
    [.read 0x8000 0x28, .read 0x01FD 0x00] = true := by decide +kernel

/-- T104. -/
theorem test_tsx_T104 : stepShows (ramState 0x8000 [0xBA] [])
    0x00 0xFD 0x00 0xFD 0x8001 0xA4 2 false
    [.read 0x8000 0xBA] = true := by decide +kernel

/-- T105: no flags although X=0. -/
theorem test_txs_T105 : stepShows (ramState 0x8000 [0x9A] [])
    0x00 0x00 0x00 0x00 0x8001 0x24 2 false
    [.read 0x8000 0x9A] = true := by decide +kernel

/-- T106. -/
theorem test_tax_T106 : stepShows { ramState 0x8000 [0xAA] [] with a := 0x80 }
    0x80 0x80 0x00 0xFD 0x8001 0xA4 2 false
    [.read 0x8000 0xAA] = true := by decide +kernel

/-- T107. -/
theorem test_tay_T107 : stepShows (ramState 0x8000 [0xA8] [])
    0x00 0x00 0x00 0xFD 0x8001 0x26 2 false
    [.read 0x8000 0xA8] = true := by decide +kernel

/-- T108. -/
theorem test_txa_T108 : stepShows { ramState 0x8000 [0x8A] [] with x := 0x7F }
    0x7F 0x7F 0x00 0xFD 0x8001 0x24 2 false
    [.read 0x8000 0x8A] = true := by decide +kernel

/-- T109. -/
theorem test_tya_T109 : stepShows { ramState 0x8000 [0x98] [] with y := 0xFF }
    0xFF 0x00 0xFF 0xFD 0x8001 0xA4 2 false
    [.read 0x8000 0x98] = true := by decide +kernel

/-- T110. -/
theorem test_clc_T110 : stepShows { ramState 0x8000 [0x18] [] with c := true }
    0x00 0x00 0x00 0xFD 0x8001 0x24 2 false
    [.read 0x8000 0x18] = true := by decide +kernel

/-- T111. -/
theorem test_sec_T111 : stepShows (ramState 0x8000 [0x38] [])
    0x00 0x00 0x00 0xFD 0x8001 0x25 2 false
    [.read 0x8000 0x38] = true := by decide +kernel

/-- T112. -/
theorem test_cli_T112 : stepShows (ramState 0x8000 [0x58] [])
    0x00 0x00 0x00 0xFD 0x8001 0x20 2 false
    [.read 0x8000 0x58] = true := by decide +kernel

/-- T113. -/
theorem test_sei_T113 : stepShows { ramState 0x8000 [0x78] [] with i := false }
    0x00 0x00 0x00 0xFD 0x8001 0x24 2 false
    [.read 0x8000 0x78] = true := by decide +kernel

/-- T114. -/
theorem test_cld_T114 : stepShows { ramState 0x8000 [0xD8] [] with d := true }
    0x00 0x00 0x00 0xFD 0x8001 0x24 2 false
    [.read 0x8000 0xD8] = true := by decide +kernel

/-- T115. -/
theorem test_sed_T115 : stepShows (ramState 0x8000 [0xF8] [])
    0x00 0x00 0x00 0xFD 0x8001 0x2C 2 false
    [.read 0x8000 0xF8] = true := by decide +kernel

/-- T116. -/
theorem test_clv_T116 : stepShows { ramState 0x8000 [0xB8] [] with v := true }
    0x00 0x00 0x00 0xFD 0x8001 0x24 2 false
    [.read 0x8000 0xB8] = true := by decide +kernel

/-- T117. -/
theorem test_nop_T117 : stepShows (ramState 0x8000 [0xEA] [])
    0x00 0x00 0x00 0xFD 0x8001 0x24 2 false
    [.read 0x8000 0xEA] = true := by decide +kernel

/-- T119: PC wraps to 0x0000. -/
theorem test_ill_T119 : stepShows (ramState 0xFFFF [0xFF] [])
    0x00 0x00 0x00 0xFD 0x0000 0x24 2 true
    [.read 0xFFFF 0xFF] = true := by decide +kernel

/-- T120: real silicon: 2-byte NOP; here 1 byte. -/
theorem test_ill_T120 : stepShows (ramState 0x8000 [0x80] [])
    0x00 0x00 0x00 0xFD 0x8001 0x24 2 true
    [.read 0x8000 0x80] = true := by decide +kernel

/-! ### Steps that execute no instruction: the vectors E1 to E11 -/

/-- The three vectors of the E table: NMI at 0xA000, reset at 0x8000, IRQ at 0x9000. -/
abbrev vectors : List (Nat × Byte) :=
  [(0xFFFB, 0xA0), (0xFFFD, 0x80), (0xFFFF, 0x90)]

/-- E1: the first step after power-up is the reset sequence. -/
theorem test_powerUp_E1 :
    (stepShows { State.reset with mem := ram vectors } 0x00 0x00 0x00 0xFD 0x8000 0x24 0 false
      [.read 0xFFFC 0x00, .read 0xFFFD 0x80] &&
    stepLeaves { State.reset with mem := ram vectors } .running false false 0) = true := by decide +kernel

/-- The state of E2. -/
abbrev warm : State :=
  { ramState 0x8123 [] vectors with
    a := 0x55, x := 0x66, y := 0x77, sp := 0x80, n := true, v := true, z := true, c := true, i := false
    cyc := 1000, irqPend := true }

/-- E2: a warm reset keeps A, X, Y, the other flags and CYC, and clears the latches. -/
theorem test_warmReset_E2 :
    (stepShows (applyHostOp .reset warm) 0x55 0x66 0x77 0xFD 0x8000 0xE7 0 false
      [.read 0xFFFC 0x00, .read 0xFFFD 0x80] &&
    stepLeaves (applyHostOp .reset warm) .running false false 1000) = true := by decide +kernel

/-- E3: an IRQ with I clear. -/
theorem test_irq_E3 :
    (stepShows (applyHostOp .injectIrq { ramState 0x8002 [] vectors with i := false, c := true })
      0x00 0x00 0x00 0xFA 0x9000 0x25 7 false
      [.write 0x01FD 0x80, .write 0x01FC 0x02, .write 0x01FB 0x21, .read 0xFFFE 0x00, .read 0xFFFF 0x90] &&
    stepLeaves (applyHostOp .injectIrq { ramState 0x8002 [] vectors with i := false, c := true })
      .running false false 7) = true := by decide +kernel

/-- E4: an IRQ masked by I stays latched and the NOP runs. -/
theorem test_maskedIrq_E4 :
    (stepShows (applyHostOp .injectIrq (ramState 0x8002 [0xEA] vectors))
      0x00 0x00 0x00 0xFD 0x8003 0x24 2 false [.read 0x8002 0xEA] &&
    stepLeaves (applyHostOp .injectIrq (ramState 0x8002 [0xEA] vectors)) .running false true 2) = true := by
  decide +kernel

/-- E5: NMI ignores I. -/
theorem test_nmi_E5 :
    (stepShows (applyHostOp .injectNmi (ramState 0x8002 [] vectors)) 0x00 0x00 0x00 0xFA 0xA000 0x24 7 false
      [.write 0x01FD 0x80, .write 0x01FC 0x02, .write 0x01FB 0x24, .read 0xFFFA 0x00, .read 0xFFFB 0xA0] &&
    stepLeaves (applyHostOp .injectNmi (ramState 0x8002 [] vectors)) .running false false 7) = true := by
  decide +kernel

/-- The state of E6: both requests with I clear. -/
abbrev bothPending : State :=
  applyHostOp .injectIrq (applyHostOp .injectNmi { ramState 0x8002 [] vectors with i := false })

/-- E6: NMI goes first and the IRQ stays latched. -/
theorem test_nmiBeforeIrq_E6 :
    (stepShows bothPending 0x00 0x00 0x00 0xFA 0xA000 0x24 7 false
      [.write 0x01FD 0x80, .write 0x01FC 0x02, .write 0x01FB 0x20, .read 0xFFFA 0x00, .read 0xFFFB 0xA0] &&
    stepLeaves bothPending .running false true 7) = true := by decide +kernel

/-- E7: the three pushes wrap inside page 1. -/
theorem test_entryStackWrap_E7 :
    stepShows (applyHostOp .injectIrq { ramState 0x8002 [] vectors with sp := 0x01, i := false })
      0x00 0x00 0x00 0xFE 0x9000 0x24 7 false
      [.write 0x0101 0x80, .write 0x0100 0x02, .write 0x01FF 0x20, .read 0xFFFE 0x00, .read 0xFFFF 0x90] = true := by
  decide +kernel

/-- E8, E9: a halted step does nothing, and a request made while halted stays latched. -/
theorem test_halted_E8_E9 :
    (stepShows (applyHostOp .halt (ramState 0x8002 [0xEA] vectors)) 0x00 0x00 0x00 0xFD 0x8002 0x24 0 false [] &&
    stepLeaves (applyHostOp .halt (ramState 0x8002 [0xEA] vectors)) .halted false false 0 &&
    stepLeaves (applyHostOp .injectNmi (applyHostOp .halt (ramState 0x8002 [0xEA] vectors)))
      .halted true false 0) = true := by decide +kernel

/-- E10: Reset is the way out of Halted and clears the latch. -/
theorem test_resetFromHalted_E10 :
    stepLeaves (applyHostOp .reset (applyHostOp .injectNmi (applyHostOp .halt (ramState 0x8002 [] vectors))))
      .running false false 0 = true := by decide +kernel

/-- E11, first step: CLI runs with the IRQ pending, which stays latched for the next step. -/
theorem test_cli_E11 :
    (stepShows (applyHostOp .injectIrq (ramState 0x8002 [0x58] vectors))
      0x00 0x00 0x00 0xFD 0x8003 0x20 2 false [.read 0x8002 0x58] &&
    stepLeaves (applyHostOp .injectIrq (ramState 0x8002 [0x58] vectors)) .running false true 2) = true := by
  decide +kernel

/-! ### Witnesses: for each statement with hypotheses, inputs that meet them -/

/-- An outcome goes on. -/
abbrev goesOn : Result → Bool
  | .next _ => true
  | _ => false

theorem next_of_goesOn {r : Result} (h : goesOn r = true) : ∃ t, r = .next t := by
  cases r with
  | next t => exact ⟨t, rfl⟩
  | fault _ => cases h
  | refused _ => cases h

/-- A state at the end of the address space: LDA $FFFF,X with X = 0x01 crosses to page 0, PC wraps. -/
abbrev atTheEnd : State := { ramState 0xFFFE [0xBD, 0xFF, 0xFF] [] with x := 0x01 }

/-- A state about to run JSR with S = 0x00, so that the two pushes wrap. -/
abbrev atJsr : State := { ramState 0x8000 [0x20, 0x00, 0x90] [] with sp := 0x00 }

theorem test_witness_DecodeInvertsEncode :
    (Instr.ill 0xFF).WellFormed ∧ (Instr.staAbs 0xFFFF).WellFormed ∧ Instr.brk.WellFormed := by decide +kernel

theorem test_witness_EncodeInvertsDecode :
    decode [0x6C, 0xFF, 0x02, 0x00] = .ok (.jmpInd 0x02FF, [0x00]) := by decide +kernel

theorem test_witness_StepRunsDecodedInstruction :
    Executes atTheEnd ∧ decode (bytesAt atTheEnd) = .ok (.ldaAbx 0xFFFF, []) :=
  ⟨⟨rfl, rfl, .inl rfl⟩, by decide +kernel⟩

theorem test_witness_StepStopsOnlyInServicing :
    atTheEnd.fsm ≠ .servicingInterrupt ∧
      ({ atTheEnd with fsm := .servicingInterrupt } : State).fsm = .servicingInterrupt := by decide +kernel

theorem test_witness_BoundaryInvariantKept : Inv atTheEnd ∧ ∃ t, step atTheEnd = .next t :=
  ⟨⟨by decide +kernel, by decide +kernel⟩, next_of_goesOn (by decide +kernel)⟩

theorem test_witness_RunsNeverStop : Reachable (applyHostOp (.editMemory 0xFFFF 0x80) State.reset) :=
  .host _ .powerUp

theorem test_witness_CanonicalMemoriesAgree :
    Memory.wf (ram [(0xFFFF, 0x01), (0x0000, 0x80)]) ∧ Memory.wf [(0x0000, 0x80), (0xFFFF, 0x01)] ∧
      ram [(0xFFFF, 0x01), (0x0000, 0x80)] = [(0x0000, 0x80), (0xFFFF, 0x01)] := by decide +kernel

theorem test_witness_LoadResults :
    Is (.ldaIzy 0xFF) .LDA ∧ Is (.ldaImm 0x00) .LDA ∧ Is (.ldxZpy 0xFF) .LDX ∧ Is (.ldyAbx 0xFFFF) .LDY := by
  decide +kernel

theorem test_witness_StoreResults :
    Is (.staIzx 0xFF) .STA ∧ Is (.stxZpy 0xFF) .STX ∧ Is (.styAbs 0xFFFF) .STY := by decide +kernel

theorem test_witness_AdcResult_SbcResult :
    Is (.adcImm 0xFF) .ADC ∧ Is (.adcIzy 0xFF) .ADC ∧ Is (.sbcImm 0x80) .SBC ∧ Is (.sbcAbx 0xFFFF) .SBC := by
  decide +kernel

theorem test_witness_SubtractUndoesAdd : atTheEnd.c = false := by decide +kernel

theorem test_witness_DecimalFlagIsStorageOnly :
    (Instr.adcAby 0xFFFF).WellFormed ∧
      (Instr.adcAby 0xFFFF).descriptor.mnemonic ∉ [.PHP, .BRK, .SED, .CLD, .PLP, .RTI] := by decide +kernel

theorem test_witness_MemoryIncrements : Is (.incAbx 0xFFFF) .INC ∧ Is (.decZpx 0xFF) .DEC := by decide +kernel

theorem test_witness_LogicalResults :
    Is (.andIzx 0xFF) .AND ∧ Is (.oraImm 0x00) .ORA ∧ Is (.eorAby 0xFFFF) .EOR := by decide +kernel

theorem test_witness_BitTestResult : Is (.bitZp 0xFF) .BIT ∧ Is (.bitAbs 0xFFFF) .BIT := by decide +kernel

theorem test_witness_ShiftResults :
    Is .aslAcc .ASL ∧ Is (.aslAbx 0xFFFF) .ASL ∧ Is .lsrAcc .LSR ∧ Is (.lsrZp 0xFF) .LSR ∧ Is .rolAcc .ROL ∧
      Is (.rolAbs 0x0000) .ROL ∧ Is .rorAcc .ROR ∧ Is (.rorZpx 0xFF) .ROR := by decide +kernel

theorem test_witness_CompareResults :
    Is (.cmpIzy 0xFF) .CMP ∧ Is (.cpxImm 0x00) .CPX ∧ Is (.cpyAbs 0xFFFF) .CPY ∧
      (Mnemonic.CPX, atTheEnd.x) = (.CPX, atTheEnd.x) := by decide +kernel

/-- Each branch once, taken and not taken among them, with the offsets at the ends of their range. -/
theorem test_witness_BranchResults :
    (Instr.beq 0x80).WellFormed ∧ branchTaken (Instr.beq 0x80).descriptor.mnemonic atTheEnd = some false ∧
      (Instr.bne 0x7F).WellFormed ∧ branchTaken (Instr.bne 0x7F).descriptor.mnemonic atTheEnd = some true ∧
      branchTaken (Instr.bcc 0x00).descriptor.mnemonic atTheEnd = some true ∧
      branchTaken (Instr.bcs 0xFF).descriptor.mnemonic atTheEnd = some false ∧
      branchTaken (Instr.bmi 0x80).descriptor.mnemonic atTheEnd = some false ∧
      branchTaken (Instr.bpl 0x80).descriptor.mnemonic atTheEnd = some true ∧
      branchTaken (Instr.bvc 0xFE).descriptor.mnemonic atTheEnd = some true ∧
      branchTaken (Instr.bvs 0xFE).descriptor.mnemonic atTheEnd = some false ∧
      (Instr.bvs 0xFE).operand = .relative 0xFE := by decide +kernel

/-- The memory of a state whose stack is about to wrap is canonical: the hypothesis of the two round trips and of the
last clause of StackWraps. -/
theorem test_witness_SubroutineRoundTrip_InterruptRoundTrip_StackWraps : atJsr.mem.wf ∧ atJsr.sp = 0x00 := by
  decide +kernel

theorem test_witness_IllegalOpcodeResult :
    (0x02 : Byte) ∈ undocumentedOpcodes ∧ (0xFF : Byte) ∈ undocumentedOpcodes ∧
      (0x00 : Byte) ∉ undocumentedOpcodes := by decide +kernel

theorem test_witness_OnlyListedInstructionsWriteRegisters :
    (Instr.aslZp 0xFF).WellFormed ∧ (∃ t, exec (.aslZp 0xFF) atTheEnd = .next t) ∧
      (Instr.aslZp 0xFF).descriptor.mnemonic ∈ [.ASL, .LSR, .ROL, .ROR] ∧
      (Instr.aslZp 0xFF).operand ≠ .accumulator ∧
      (Instr.aslZp 0xFF).descriptor.mnemonic ∉ writersOfX ++ writersOfY ++ writersOfS ++ writersOfI ++ writersOfD ++
        writersOfV ∧
      (Instr.staZp 0xFF).descriptor.mnemonic ∉ writersOfA ++ writersOfC ++ writersOfZN :=
  ⟨by decide +kernel, next_of_goesOn (by decide +kernel), by decide +kernel, by decide +kernel, by decide +kernel,
    by decide +kernel⟩

/-- A store at 0xFFFF, a push with S = 0x00 and a form that stores nothing. -/
theorem test_witness_OnlyStoredBytesChange :
    atJsr.mem.wf ∧ (∃ t, exec (.staAbs 0xFFFF) atJsr = .next t) ∧ stores .STA ∧
      (resolve (.absolute 0xFFFF) atJsr).1.operand = .mem 0xFFFF ∧
      (∃ t, exec (.jsr 0x9000) atJsr = .next t) ∧ pushes .JSR ∧ (0x0000 : Nat) ≠ slot (atJsr.sp - byte 1) ∧
      (∃ t, exec .rorAcc atJsr = .next t) ∧ Instr.rorAcc.operand = .accumulator ∧
      (∃ t, exec (.cmpImm 0x00) atJsr = .next t) ∧ ¬ stores .CMP ∧ ¬ pushes .CMP :=
  ⟨by decide +kernel, next_of_goesOn (by decide +kernel), .inl (by decide), by decide +kernel,
    next_of_goesOn (by decide +kernel), by unfold pushes; decide, by decide +kernel,
    next_of_goesOn (by decide +kernel), rfl, next_of_goesOn (by decide +kernel),
    by unfold stores modifies; decide, by unfold pushes; decide⟩

/-- A running state that executes, one that enters an interrupt, one in Reset and one Halted: the cases of
CyclesOfAStep, IllegalOpSignal, NothingDependsOnCycleCounter, BusAccessSequence, FsmTransitions, RequestLatches,
ResetSequenceStep, InterruptEntrySteps (NMI) and HaltedStepDoesNothing. -/
theorem test_witness_steps :
    ((∃ t, step atTheEnd = .next t) ∧ Executes atTheEnd ∧
      decode (bytesAt atTheEnd) = .ok (.ldaAbx 0xFFFF, [])) ∧
    ((∃ t, step bothPending = .next t) ∧ bothPending.fsm = .running ∧ bothPending.nmiPend = true ∧
      ¬ Executes bothPending) ∧
    ((∃ t, step State.reset = .next t) ∧ State.reset.fsm = .reset ∧ State.reset.fsm ≠ .running) ∧
    ((∃ t, step (applyHostOp .halt warm) = .next t) ∧ (applyHostOp .halt warm).fsm = .halted) :=
  ⟨⟨next_of_goesOn (by decide +kernel), ⟨rfl, rfl, .inl rfl⟩, by decide +kernel⟩,
    ⟨next_of_goesOn (by decide +kernel), rfl, rfl, fun h => Bool.noConfusion h.2.1⟩,
    ⟨next_of_goesOn (by decide +kernel), rfl, by decide⟩, ⟨next_of_goesOn (by decide +kernel), rfl⟩⟩

/-- The IRQ case of InterruptEntrySteps. -/
theorem test_witness_InterruptEntrySteps_irq :
    warm.fsm = .running ∧ warm.nmiPend = false ∧ warm.irqPend = true ∧ warm.i = false := by decide +kernel

/-- Both clauses of InterruptMaskTakesEffectAtOnce, CLI and SEI at the last address. -/
theorem test_witness_InterruptMaskTakesEffectAtOnce :
    (let s := applyHostOp .injectIrq (ramState 0xFFFF [0x58] [])
     s.mem.wf ∧ s.fsm = .running ∧ s.nmiPend = false ∧ s.irqPend = true ∧ s.i = true ∧
       s.mem.read s.pc.toNat = 0x58) ∧
    (let s := ramState 0xFFFF [0x78] []
     s.mem.wf ∧ s.fsm = .running ∧ s.nmiPend = false ∧ s.irqPend = false ∧ s.mem.read s.pc.toNat = 0x78) := by
  decide +kernel

end Sys2Proof.Tests
end

section
/-! Every instruction completes (spec/00_scope.md R14): each shape an instruction's execution takes answers a next
state in which CYC has grown by the cycles charged, and every instruction has one of these shapes. -/

namespace Sys2Proof.Machine

/-- The outcome of an instruction run at `s` is a next state, whose CYC is that of `s` plus the positive number of
cycles the instruction put out (R14, R284). -/
def CompletesFrom (s : State) (r : Result) : Prop :=
  ∃ t, r = .next t ∧ t.cyc = s.cyc + t.cycles ∧ 0 < t.cycles

/-! ### Base cycles -/

theorem opcodeTable_cycles_pos : ∀ r ∈ opcodeTable, 0 < r.descriptor.cycles := by decide +kernel

/-- No opcode byte, documented or not, is free (R84). -/
theorem lookup_cycles_pos (op : Byte) : 0 < (lookup op).cycles := by
  rcases opcode_cases op with hill | ⟨r, hr, rfl⟩
  · simp [lookup_ill hill]
  · rw [lookup_of_mem r hr]
    exact opcodeTable_cycles_pos r hr

/-! ### Accesses charge nothing, and those of an operand succeed -/

@[simp] theorem resolve_cyc (o : Operand) (s : State) : (resolve o s).2.cyc = s.cyc := by
  obtain ⟨_, hst⟩ := resolve_state o s
  rw [hst]

@[simp] theorem enterInterrupt_cyc (ret : Word) (brk : Bool) (vec : Word) (s : State) :
    (enterInterrupt ret brk vec s).cyc = s.cyc := by
  rw [enterInterrupt_eq]

@[simp] theorem returnFromInterrupt_cyc (s : State) : (returnFromInterrupt s).2.cyc = s.cyc := by
  simp [returnFromInterrupt_eq]

/-- `OperandRead` fails on `None` only (R126). -/
theorem operandRead_completes {e : Effective} (he : e ≠ .none) (s : State) :
    ∃ m u, operandRead e s = some (m, u) ∧ u.cyc = s.cyc := by
  cases e with
  | none => exact absurd rfl he
  | acc | imm | mem => exact ⟨_, _, rfl, rfl⟩

/-- `OperandWrite` fails on `None` and `Imm` only (R126). -/
theorem operandWrite_completes {e : Effective} (he : e ≠ .none) (hi : ∀ w, e ≠ .imm w) (v : Byte) (s : State) :
    ∃ u, operandWrite e v s = some u ∧ u.cyc = s.cyc := by
  cases e with
  | none => exact absurd rfl he
  | imm w => exact absurd rfl (hi w)
  | acc | mem => exact ⟨_, rfl, rfl⟩

/-! ### Each shape of an instruction completes -/

section
variable {opc : Byte} {o : Operand} {s : State}

theorem retireAt_completes {d : Descriptor} (hd : 0 < d.cycles) {u : State} (hu : u.cyc = s.cyc) (k : Nat) (pc : Word) :
    CompletesFrom s (.next (retireAt d k pc u)) :=
  ⟨_, rfl, by simp [hu], by simp [hd]⟩

theorem runImplied_completes {effect : State → State} (heff : (effect s).cyc = s.cyc) :
    CompletesFrom s (runImplied opc effect s) :=
  retireAt_completes (lookup_cycles_pos opc) heff _ _

theorem runRead_completes {effect : Byte → State → State} (ho : (resolve o s).1.operand ≠ .none)
    (heff : ∀ m u, (effect m u).cyc = u.cyc) : CompletesFrom s (runRead opc o effect s) := by
  obtain ⟨m, u, hread, hu⟩ := operandRead_completes ho (resolve o s).2
  simp only [runRead, hread]
  exact retireAt_completes (lookup_cycles_pos opc) (by rw [heff, hu, resolve_cyc]) _ _

theorem runWrite_completes {v : Byte} (ho : (resolve o s).1.operand ≠ .none)
    (hi : ∀ w, (resolve o s).1.operand ≠ .imm w) : CompletesFrom s (runWrite opc o v s) := by
  obtain ⟨u, hwrite, hu⟩ := operandWrite_completes ho hi v (resolve o s).2
  simp only [runWrite, hwrite]
  exact retireAt_completes (lookup_cycles_pos opc) (by rw [hu, resolve_cyc]) _ _

theorem runModify_completes {result : Byte → State → Byte} {flags : Byte → State → State}
    (ho : (resolve o s).1.operand ≠ .none) (hi : ∀ w, (resolve o s).1.operand ≠ .imm w)
    (hflags : ∀ m u, (flags m u).cyc = u.cyc) : CompletesFrom s (runModify opc o result flags s) := by
  obtain ⟨m, u, hread, hu⟩ := operandRead_completes ho (resolve o s).2
  obtain ⟨u', hwrite, hu'⟩ := operandWrite_completes ho hi (result m u) (flags m u)
  simp only [runModify, hread, hwrite]
  exact retireAt_completes (lookup_cycles_pos opc) (by rw [hu', hflags, hu, resolve_cyc]) _ _

theorem runJump_completes {effect : State → State} {ea : Word} (ho : (resolve o s).1.operand = .mem ea)
    (heff : ∀ u, (effect u).cyc = u.cyc) : CompletesFrom s (runJump opc o effect s) := by
  simp only [runJump, ho]
  exact retireAt_completes (lookup_cycles_pos opc) (by rw [heff, resolve_cyc]) _ _

theorem runBranch_completes {taken : Bool} {target : Word} (ho : (resolve o s).1.operand = .mem target) :
    CompletesFrom s (runBranch opc o taken s) := by
  simp only [runBranch, ho]
  split <;> exact retireAt_completes (lookup_cycles_pos opc) (resolve_cyc o s) _ _

end

/-! ### Every instruction has one of these shapes -/

/-- The cases are grouped by shape; RTS, BRK and RTI retire on their own, and so does an undocumented byte, at the two
cycles its policy gives it. -/
theorem exec_completes (i : Instr) (s : State) : CompletesFrom s (exec i s) := by
  unfold exec
  cases i with
  | inx | iny | dex | dey | pha | pla | php | plp | tsx | txs | tax | tay | txa | tya | clc | sec | cli | sei | cld
  | sed | clv | nop =>
    exact runImplied_completes rfl
  | ldaImm | ldaZp | ldaZpx | ldaAbs | ldaAbx | ldaAby | ldaIzx | ldaIzy | ldxImm | ldxZp | ldxZpy | ldxAbs | ldxAby
  | ldyImm | ldyZp | ldyZpx | ldyAbs | ldyAbx | adcImm | adcZp | adcZpx | adcAbs | adcAbx | adcAby | adcIzx | adcIzy
  | sbcImm | sbcZp | sbcZpx | sbcAbs | sbcAbx | sbcAby | sbcIzx | sbcIzy | andImm | andZp | andZpx | andAbs | andAbx
  | andAby | andIzx | andIzy | oraImm | oraZp | oraZpx | oraAbs | oraAbx | oraAby | oraIzx | oraIzy | eorImm | eorZp
  | eorZpx | eorAbs | eorAbx | eorAby | eorIzx | eorIzy | bitZp | bitAbs | cmpImm | cmpZp | cmpZpx | cmpAbs | cmpAbx
  | cmpAby | cmpIzx | cmpIzy | cpxImm | cpxZp | cpxAbs | cpyImm | cpyZp | cpyAbs =>
    exact runRead_completes nofun fun _ _ => rfl
  | staZp | staZpx | staAbs | staAbx | staAby | staIzx | staIzy | stxZp | stxZpy | stxAbs | styZp | styZpx | styAbs =>
    exact runWrite_completes nofun nofun
  | incZp | incZpx | incAbs | incAbx | decZp | decZpx | decAbs | decAbx | aslAcc | aslZp | aslZpx | aslAbs | aslAbx
  | lsrAcc | lsrZp | lsrZpx | lsrAbs | lsrAbx | rolAcc | rolZp | rolZpx | rolAbs | rolAbx | rorAcc | rorZp | rorZpx
  | rorAbs | rorAbx =>
    exact runModify_completes nofun nofun fun _ _ => rfl
  | jmpAbs | jmpInd | jsr => 
    exact runJump_completes rfl fun _ => rfl
  | bcc | bcs | beq | bne | bmi | bpl | bvc | bvs =>
    exact runBranch_completes rfl
  | rts => exact retireAt_completes (lookup_cycles_pos _) (pull16_cyc s) _ _
  | brk => exact retireAt_completes (lookup_cycles_pos _) (enterInterrupt_cyc _ _ _ s) _ _
  | rti => exact retireAt_completes (lookup_cycles_pos _) (returnFromInterrupt_cyc s) _ _
  | ill opcode =>
    have hcycles : 0 < (illegalRow opcode params.illegalPolicy).descriptor.cycles := Nat.two_pos
    exact retireAt_completes hcycles rfl _ _

/-- Settles O8: every instruction has a shape that completes. -/
theorem everyInstructionCompletes : Obligations.EveryInstructionCompletes := by
  unfold Obligations.EveryInstructionCompletes
  exact exec_completes

end Sys2Proof.Machine
end

section
/-! Every opcode byte has a descriptor (spec/30_encoding.md R84): its length is that of a format, 1 to 3, and its
cycles are positive by `lookup_cycles_pos`. -/

namespace Sys2Proof

theorem Mode.length_bounds (m : Mode) : 0 < m.length ∧ m.length ≤ 3 := by
  cases m <;> decide

/-- Every row, the undocumented ones' included, takes its length from its mode (R84). -/
theorem lookup_length (op : Byte) : (lookup op).length = (lookup op).mode.length := rfl

/-- Settles O3: the length of any row is a format's, and no row is free. -/
theorem everyOpcodeHasDescriptor : Obligations.EveryOpcodeHasDescriptor := by
  unfold Obligations.EveryOpcodeHasDescriptor
  intro op
  obtain ⟨hpos, hle⟩ := (lookup op).mode.length_bounds
  rw [lookup_length]
  exact ⟨hpos, hle, Machine.lookup_cycles_pos op, rfl⟩

end Sys2Proof
end

section
/-! Every well-formed instruction has the encoded form its descriptor names (spec/30_encoding.md R81, R84, R85), so the
default next PC is the address after its bytes (spec/41_load_store.md R140). -/

namespace Sys2Proof.Laws.EncodedForm

/-- The lemmas of this namespace, one per constructor, taken together. -/
theorem statement_holds (i : Instr) : Statement i := by
  cases i
  exacts [ldaImm _, ldaZp _, ldaZpx _, ldaAbs _, ldaAbx _, ldaAby _, ldaIzx _, ldaIzy _, ldxImm _, ldxZp _, ldxZpy _,
    ldxAbs _, ldxAby _, ldyImm _, ldyZp _, ldyZpx _, ldyAbs _, ldyAbx _, staZp _, staZpx _, staAbs _, staAbx _,
    staAby _, staIzx _, staIzy _, stxZp _, stxZpy _, stxAbs _, styZp _, styZpx _, styAbs _, adcImm _, adcZp _,
    adcZpx _, adcAbs _, adcAbx _, adcAby _, adcIzx _, adcIzy _, sbcImm _, sbcZp _, sbcZpx _, sbcAbs _, sbcAbx _,
    sbcAby _, sbcIzx _, sbcIzy _, incZp _, incZpx _, incAbs _, incAbx _, decZp _, decZpx _, decAbs _, decAbx _, inx,
    iny, dex, dey, andImm _, andZp _, andZpx _, andAbs _, andAbx _, andAby _, andIzx _, andIzy _, oraImm _, oraZp _,
    oraZpx _, oraAbs _, oraAbx _, oraAby _, oraIzx _, oraIzy _, eorImm _, eorZp _, eorZpx _, eorAbs _, eorAbx _,
    eorAby _, eorIzx _, eorIzy _, bitZp _, bitAbs _, aslAcc, aslZp _, aslZpx _, aslAbs _, aslAbx _, lsrAcc, lsrZp _,
    lsrZpx _, lsrAbs _, lsrAbx _, rolAcc, rolZp _, rolZpx _, rolAbs _, rolAbx _, rorAcc, rorZp _, rorZpx _, rorAbs _,
    rorAbx _, cmpImm _, cmpZp _, cmpZpx _, cmpAbs _, cmpAbx _, cmpAby _, cmpIzx _, cmpIzy _, cpxImm _, cpxZp _,
    cpxAbs _, cpyImm _, cpyZp _, cpyAbs _, bcc _, bcs _, beq _, bne _, bmi _, bpl _, bvc _, bvs _, jmpAbs _,
    jmpInd _, jsr _, rts, brk, rti, pha, pla, php, plp, tsx, txs, tax, tay, txa, tya, clc, sec, cli, sei, cld, sed,
    clv, nop, ill _]

end Sys2Proof.Laws.EncodedForm

namespace Sys2Proof.Machine

open Sys2Proof.Claims

theorem descriptor_ill {op : Byte} (hwf : (Instr.ill op).WellFormed) :
    (Instr.ill op).descriptor = ⟨.ILL, .implied, 2, 1, false⟩ :=
  lookup_ill (List.contains_iff_mem.mp hwf)

theorem pcNext_descriptor {i : Instr} (hwf : i.WellFormed) (s : State) : pcNext i.descriptor s = pcAfter i s := by
  obtain ⟨-, hlen⟩ := Laws.EncodedForm.statement_holds i hwf
  rw [pcNext, pcAfter, BitVec.ofNat_add, BitVec.ofNat_toNat, BitVec.setWidth_eq, hlen]

end Sys2Proof.Machine
end

section
/-! The resolver's address and page-cross test are those of the statements' plain arithmetic (spec/40_addressing.md
R112 to R125), and so are the byte an operand read yields and the byte an operand write replaces (R126). -/

namespace Sys2Proof.Machine

open Sys2Proof.Claims

/-! ### Addresses as numbers -/

theorem add_zext16_toNat (w : Word) (b : Byte) : (w + zext16 b).toNat = (w.toNat + b.toNat) % 65536 := by
  rw [BitVec.toNat_add, zext16_toNat]

/-- Zero-page arithmetic wraps in page 0 (R117, R118). -/
theorem zext16_add_toNat (b c : Byte) : (zext16 (b + c)).toNat = (b.toNat + c.toNat) % 256 := by
  rw [zext16_toNat, BitVec.toNat_add]

/-- A branch target counts from the address after the branch, modulo 65536 (R125). -/
theorem add_sext16_eq (w : Word) (b : Byte) : w + 2 + sext16 b = BitVec.ofInt 16 (w.toNat + 2 + b.toInt) := by
  rw [BitVec.ofInt_add, BitVec.ofInt_add, ← sext16_toInt, BitVec.ofInt_toInt, BitVec.ofInt_natCast,
    BitVec.ofNat_toNat, BitVec.setWidth_eq]
  rfl

theorem add_sext16_toNat (w : Word) (b : Byte) :
    (w + 2 + sext16 b).toNat = ((w.toNat + 2 + b.toInt) % 65536).toNat := by
  rw [add_sext16_eq, BitVec.toNat_ofInt]
  rfl

/-- The high byte of the indirect pointer comes from the same page (R122). -/
theorem nextInPage_toNat (w : Word) :
    (word (hi w) (lo w + 1)).toNat = w.toNat / 256 * 256 + (w.toNat + 1) % 256 := by
  have hlo : (lo w + 1).toNat = (w.toNat % 256 + 1) % 256 := by rw [BitVec.toNat_add, lo_toNat]; rfl
  rw [word_toNat, hi_toNat, hlo]
  omega

theorem readPair_toNat (low high : Word) (s : State) :
    (readPair low high s).1.toNat = pointer s low.toNat high.toNat := by
  rw [readPair_fst, word_toNat, pointer]

theorem read16Bug_toNat (w : Word) (s : State) :
    (read16Bug w s).1.toNat = pointer s w.toNat (w.toNat / 256 * 256 + (w.toNat + 1) % 256) := by
  rw [read16Bug, readPair_toNat, nextInPage_toNat]

theorem read16ZP_toNat (b : Byte) (s : State) :
    (read16ZP b s).1.toNat = pointer s b.toNat ((b.toNat + 1) % 256) := by
  rw [read16ZP, readPair_toNat, zext16_toNat, zext16_add_toNat]
  rfl

theorem read16ZP_add_toNat (b c : Byte) (s : State) :
    (read16ZP (b + c) s).1.toNat =
      pointer s ((b.toNat + c.toNat) % 256) ((b.toNat + c.toNat + 1) % 256) := by
  rw [read16ZP_toNat, BitVec.toNat_add, Nat.mod_add_mod]

/-! ### Resolving -/

theorem resolve_operand_acc {o : Operand} {s : State} (h : (resolve o s).1.operand = .acc) : o = .accumulator := by
  cases o with
  | accumulator => rfl
  | _ => cases h

theorem resolve_operand_imm {o : Operand} {s : State} {v : Byte} (h : (resolve o s).1.operand = .imm v) :
    o = .immediate v := by
  cases o with
  | immediate => cases h; rfl
  | _ => cases h

/-- A resolved address is the effective address in plain arithmetic (R116 to R125). -/
theorem address_of_resolve {o : Operand} {s : State} {ea : Word} (h : (resolve o s).1.operand = .mem ea) :
    address o s = some ea.toNat := by
  cases o with
  | implied | accumulator | immediate => cases h
  | zeroPage b => cases h; exact congrArg some (zext16_toNat b).symm
  | zeroPageX b => cases h; exact congrArg some (zext16_add_toNat b s.x).symm
  | zeroPageY b => cases h; exact congrArg some (zext16_add_toNat b s.y).symm
  | absolute w => cases h; rfl
  | absoluteX w => cases h; exact congrArg some (add_zext16_toNat w s.x).symm
  | absoluteY w => cases h; exact congrArg some (add_zext16_toNat w s.y).symm
  | indirect w => cases h; exact congrArg some (read16Bug_toNat w s).symm
  | indexedIndirect b => cases h; exact congrArg some (read16ZP_add_toNat b s.x s).symm
  | indirectIndexed b =>
    cases h
    rw [add_zext16_toNat, read16ZP_toNat]
    rfl
  | relative b => cases h; exact congrArg some (add_sext16_toNat s.pc b).symm

/-- The page-cross test of an indexed address, for a base and a sum given as numbers (R112). -/
theorem indexed_crossed {base offset : Word} {b ea : Nat} (hbase : base.toNat = b % 65536)
    (hsum : (base + offset).toNat = ea) :
    (indexed base offset).crossed = decide (b % 65536 / 256 ≠ ea / 256) := by
  rw [← hbase, ← hsum]
  exact pageCrossed_eq base (base + offset)

/-- The resolver's page-cross test is that of the plain addresses (R112). -/
theorem resolve_crossed (o : Operand) (s : State) : (resolve o s).1.crossed = crosses o s := by
  cases o with
  | absoluteX w => exact indexed_crossed (Nat.mod_eq_of_lt w.isLt).symm (add_zext16_toNat w s.x)
  | absoluteY w => exact indexed_crossed (Nat.mod_eq_of_lt w.isLt).symm (add_zext16_toNat w s.y)
  | indirectIndexed b =>
    have hbase := read16ZP_toNat b s
    refine indexed_crossed ?_ ?_
    · rw [← hbase, Nat.mod_eq_of_lt (BitVec.isLt _)]
    · rw [add_zext16_toNat, hbase]
  | relative b => exact indexed_crossed (BitVec.toNat_add s.pc 2) (add_sext16_toNat s.pc b)
  | _ => rfl

/-! ### Operand access -/

theorem operandValue_of_address {i : Instr} {s : State} {ea : Nat} (h : address i.operand s = some ea) :
    operandValue i s = some (s.mem.read ea) := by
  unfold operandValue
  cases ho : i.operand with
  | accumulator | immediate => rw [ho] at h; cases h
  | _ => exact congrArg (Option.map s.mem.read) (ho ▸ h)

/-- Reading a resolved operand yields the byte the operand designates, and records bus reads only. -/
theorem operandRead_resolve {i : Instr} {s s' : State} {m : Byte}
    (h : operandRead (resolve i.operand s).1.operand (resolve i.operand s).2 = some (m, s')) :
    operandValue i s = some m ∧ ∃ bus, s' = { s with bus := bus } := by
  obtain ⟨reads, hst⟩ := resolve_state i.operand s
  rw [hst] at h
  obtain ⟨hacc, rfl, rfl⟩ | ⟨himm, rfl⟩ | ⟨ea, hmem, rfl, rfl⟩ := operandRead_some h
  · exact ⟨by rw [operandValue, resolve_operand_acc hacc], _, rfl⟩
  · exact ⟨by rw [operandValue, resolve_operand_imm himm], _, rfl⟩
  · exact ⟨operandValue_of_address (address_of_resolve hmem), _, rfl⟩

/-- Writing a resolved operand other than the accumulator stores the byte at the effective address, and records bus
accesses only. -/
theorem operandWrite_resolve {o : Operand} (ho : o ≠ .accumulator) {s s' : State} {v : Byte}
    (h : operandWrite (resolve o s).1.operand v (resolve o s).2 = some s') :
    ∃ ea bus, address o s = some ea ∧ s' = { s with mem := s.mem.write ea v, bus := bus } := by
  obtain ⟨reads, hst⟩ := resolve_state o s
  rw [hst] at h
  obtain ⟨hacc, -⟩ | ⟨ea, hmem, rfl⟩ := operandWrite_some h
  · exact absurd (resolve_operand_acc hacc) ho
  · exact ⟨ea.toNat, _, address_of_resolve hmem, rfl⟩

end Sys2Proof.Machine
end

section
/-! The instructions that read their operand, and those that store a register: what each mnemonic does with the byte,
and that the instruction completes with that result, PC past it, and nothing else changed (R140, R141 to R146). -/

namespace Sys2Proof.Machine

open Sys2Proof.Claims

/-- An instruction that retires at a state which is `u` but for the outputs and the bus record completes as `u`. -/
theorem completes_of_retireAt {i : Instr} {s u u' : State} {k : Nat} {pc : Word}
    (hexec : exec i s = .next (retireAt i.descriptor k pc u')) (harch : arch u' = arch u) (hcyc : u.cyc = s.cyc)
    (hmn : i.descriptor.mnemonic ≠ .ILL) :
    Completes i s { u with pc := pc } (i.descriptor.cycles + k) := by
  refine ⟨_, hexec, ?_, rfl, beq_false_of_ne hmn⟩
  have hcyc' : u'.cyc = s.cyc := (congrArg State.cyc harch).trans hcyc
  calc arch (retireAt i.descriptor k pc u')
      = { arch u' with pc := pc, cyc := u'.cyc + (i.descriptor.cycles + k) } := rfl
    _ = { arch u with pc := pc, cyc := s.cyc + (i.descriptor.cycles + k) } := by rw [harch, hcyc']

/-! ### Instructions that read their operand -/

/-- What each mnemonic that only reads its operand does with the byte; `none` for the others. -/
def readEffect : Mnemonic → Option (Byte → State → State)
  | .LDA => some loadA
  | .LDX => some loadX
  | .LDY => some loadY
  | .ADC => some addToA
  | .SBC => some subFromA
  | .AND => some andA
  | .ORA => some oraA
  | .EOR => some eorA
  | .BIT => some bitTest
  | .CMP => some compareA
  | .CPX => some compareX
  | .CPY => some compareY
  | _ => none

/-- No read effect looks at the bus record or charges cycles. -/
theorem readEffect_arch {m : Mnemonic} {effect : Byte → State → State} (he : readEffect m = some effect) (v : Byte)
    (s : State) (bus : List BusAccess) :
    arch (effect v { s with bus := bus }) = arch (effect v s) ∧ (effect v s).cyc = s.cyc := by
  cases m <;> cases he <;> exact ⟨rfl, rfl⟩

theorem exec_of_readEffect {i : Instr} {effect : Byte → State → State} (hwf : i.WellFormed)
    (he : readEffect i.descriptor.mnemonic = some effect) (s : State) :
    exec i s = runRead i.opcode i.operand effect s := by
  cases i with
  | ldaImm | ldaZp | ldaZpx | ldaAbs | ldaAbx | ldaAby | ldaIzx | ldaIzy | ldxImm | ldxZp | ldxZpy | ldxAbs | ldxAby
  | ldyImm | ldyZp | ldyZpx | ldyAbs | ldyAbx | adcImm | adcZp | adcZpx | adcAbs | adcAbx | adcAby | adcIzx | adcIzy
  | sbcImm | sbcZp | sbcZpx | sbcAbs | sbcAbx | sbcAby | sbcIzx | sbcIzy | andImm | andZp | andZpx | andAbs | andAbx
  | andAby | andIzx | andIzy | oraImm | oraZp | oraZpx | oraAbs | oraAbx | oraAby | oraIzx | oraIzy | eorImm | eorZp
  | eorZpx | eorAbs | eorAbx | eorAby | eorIzx | eorIzy | bitZp | bitAbs | cmpImm | cmpZp | cmpZpx | cmpAbs | cmpAbx
  | cmpAby | cmpIzx | cmpIzy | cpxImm | cpxZp | cpxAbs | cpyImm | cpyZp | cpyAbs =>
    simp [Instr.descriptor, Instr.opcode, readEffect] at he
    subst he
    rfl
  | ill op =>
    rw [descriptor_ill hwf] at he
    cases he
  | _ => simp [Instr.descriptor, Instr.opcode, readEffect] at he

/-- An instruction that reads its operand applies its effect to the byte the operand designates, moves PC past itself
and charges its base cycles and page penalty. -/
theorem completes_of_readEffect {i : Instr} {mn : Mnemonic} {effect : Byte → State → State} (h : Is i mn)
    (he : readEffect mn = some effect) (s : State) :
    ∃ m, operandValue i s = some m ∧ Completes i s { effect m s with pc := pcAfter i s } (cost i s) := by
  obtain ⟨hwf, rfl⟩ := h
  obtain ⟨t, hexec, -⟩ := exec_completes i s
  have hrun := hexec
  rw [exec_of_readEffect hwf he] at hrun
  obtain ⟨m, s', hread, rfl⟩ := runRead_next hrun
  obtain ⟨hvalue, bus, rfl⟩ := operandRead_resolve hread
  obtain ⟨harch, hcyc⟩ := readEffect_arch he m s bus
  have hmn : i.descriptor.mnemonic ≠ .ILL := fun h => by rw [h] at he; cases he
  rw [← Instr.descriptor, resolve_crossed, pcNext_descriptor hwf] at hexec
  exact ⟨m, hvalue, completes_of_retireAt hexec harch hcyc hmn⟩

/-! ### Instructions that store a register -/

/-- The register each storing mnemonic stores; `none` for the others. -/
def storedRegister : Mnemonic → Option (State → Byte)
  | .STA => some State.a
  | .STX => some State.x
  | .STY => some State.y
  | _ => none

/-- The rows of the stores: none pays a page penalty, and none is in accumulator mode (R88, R90). -/
theorem lookup_of_storedRegister : ∀ op : Byte, (storedRegister (lookup op).mnemonic).isSome →
    (lookup op).penalty = false ∧ (lookup op).mode ≠ .accumulator := by decide +kernel

theorem exec_of_storedRegister {i : Instr} {reg : State → Byte} (hwf : i.WellFormed)
    (hr : storedRegister i.descriptor.mnemonic = some reg) (s : State) :
    exec i s = runWrite i.opcode i.operand (reg s) s := by
  cases i with
  | staZp | staZpx | staAbs | staAbx | staAby | staIzx | staIzy | stxZp | stxZpy | stxAbs | styZp | styZpx | styAbs =>
    simp [Instr.descriptor, Instr.opcode, storedRegister] at hr
    subst hr
    rfl
  | ill op =>
    rw [descriptor_ill hwf] at hr
    cases hr
  | _ => simp [Instr.descriptor, Instr.opcode, storedRegister] at hr

/-- A store writes the register at the effective address, moves PC past itself and charges its base cycles only. -/
theorem completes_of_storedRegister {i : Instr} {mn : Mnemonic} {reg : State → Byte} (h : Is i mn)
    (hr : storedRegister mn = some reg) (s : State) :
    ∃ ea, address i.operand s = some ea ∧
      Completes i s { s with mem := s.mem.write ea (reg s), pc := pcAfter i s } i.descriptor.cycles := by
  obtain ⟨hwf, rfl⟩ := h
  obtain ⟨hpenalty, hmode⟩ : i.descriptor.penalty = false ∧ i.descriptor.mode ≠ .accumulator :=
    lookup_of_storedRegister i.opcode (by rw [← Instr.descriptor, hr]; rfl)
  have ho : i.operand ≠ .accumulator := fun h => by
    rw [← (Laws.EncodedForm.statement_holds i hwf).1, h] at hmode
    exact hmode rfl
  obtain ⟨t, hexec, -⟩ := exec_completes i s
  have hrun := hexec
  rw [exec_of_storedRegister hwf hr] at hrun
  obtain ⟨s', hwrite, rfl⟩ := runWrite_next hrun
  obtain ⟨ea, bus, haddr, rfl⟩ := operandWrite_resolve ho hwrite
  have hmn : i.descriptor.mnemonic ≠ .ILL := fun h => by rw [h] at hr; cases hr
  have hfree (crossed : Bool) : penalty i.descriptor crossed = 0 := by rw [penalty, hpenalty]; rfl
  rw [← Instr.descriptor, hfree, pcNext_descriptor hwf] at hexec
  exact ⟨ea, haddr, completes_of_retireAt (u := { s with mem := s.mem.write ea (reg s) }) hexec rfl rfl hmn⟩

/-! ### Loads and stores -/

theorem setZN_eq_withZN (v : Byte) (s : State) : setZN v s = withZN v s := setZN_eq v s

/-- A load whose effect puts the byte in a register and sets Z and N from it. -/
theorem load_completes {i : Instr} {mn : Mnemonic} {put : Byte → State → State} (h : Is i mn)
    (he : readEffect mn = some fun m s => setZN m (put m s)) (s : State) :
    ∃ m, operandValue i s = some m ∧ Completes i s (withZN m { put m s with pc := pcAfter i s }) (cost i s) := by
  obtain ⟨m, hvalue, hdone⟩ := completes_of_readEffect h he s
  rw [setZN_eq_withZN] at hdone
  exact ⟨m, hvalue, hdone⟩

/-- Settles O19: each mnemonic reads its operand and puts the byte in its register; the rows are those of the table. -/
theorem loadResults : Obligations.LoadResults := by
  unfold Obligations.LoadResults
  intro i s
  exact ⟨fun h => load_completes (put := fun m s => { s with a := m }) h rfl s,
    fun h => load_completes (put := fun m s => { s with x := m }) h rfl s,
    fun h => load_completes (put := fun m s => { s with y := m }) h rfl s,
    by decide +kernel, by decide +kernel, by decide +kernel⟩

/-- Settles O20: each mnemonic writes its register at the effective address; the rows are those of the table. -/
theorem storeResults : Obligations.StoreResults := by
  unfold Obligations.StoreResults
  intro i s
  exact ⟨fun h => completes_of_storedRegister h rfl s, fun h => completes_of_storedRegister h rfl s,
    fun h => completes_of_storedRegister h rfl s,
    by decide +kernel, by decide +kernel, by decide +kernel⟩

end Sys2Proof.Machine
end

section
/-! The one adder of the ALU (spec/42_arithmetic.md R150): its byte and its carry as numbers, and its overflow bit as a
fact about signs and as a fact about the signed sum. -/

namespace Sys2Proof.Machine

open Sys2Proof.Claims

@[simp] theorem addWithCarry_r_toNat (a m : Byte) (cin : Bool) :
    (addWithCarry a m cin).r.toNat = (a.toNat + m.toNat + num cin) % 256 :=
  BitVec.toNat_ofNat ..

@[simp] theorem addWithCarry_cout (a m : Byte) (cin : Bool) :
    (addWithCarry a m cin).cout = decide (255 < a.toNat + m.toNat + num cin) := rfl

/-- Masking with 0x80 tests the sign bit. -/
theorem and_0x80_bne_zero (v : Byte) : (v &&& 0x80#8 != 0#8) = v.msb := by
  have h := BitVec.and_twoPow v 7
  rw [← BitVec.msb_eq_getLsbD_last (w := 8)] at h
  rw [show (0x80#8) = BitVec.twoPow 8 7 from rfl, h]
  cases v.msb <;> rfl

/-- The bit R150 computes by masks says that each operand's sign differs from the result's. -/
theorem addWithCarry_ovf (a m : Byte) (cin : Bool) :
    (addWithCarry a m cin).ovf =
      ((a.msb ^^ (addWithCarry a m cin).r.msb) && (m.msb ^^ (addWithCarry a m cin).r.msb)) := by
  rw [← BitVec.msb_xor, ← BitVec.msb_xor, ← BitVec.msb_and, ← and_0x80_bne_zero]
  rfl

theorem addWithCarry_ovf_iff_signs (a m : Byte) (cin : Bool) :
    (addWithCarry a m cin).ovf = true ↔ a.msb = m.msb ∧ (addWithCarry a m cin).r.msb ≠ a.msb := by
  have signs : ∀ x y z : Bool, ((x ^^ z) && (y ^^ z)) = true ↔ x = y ∧ z ≠ x := by decide
  rw [addWithCarry_ovf]
  exact signs ..

/-- The two forms of overflow agree on any byte `r` that is the sum modulo 256: with operands of different signs the
signed sum is in range, and with operands of one sign it is out of range exactly when `r` has the other. -/
theorem sign_flips_iff_signedSum_out_of_range {a m r : Byte} {cin : Bool}
    (hr : r.toNat = (a.toNat + m.toNat + num cin) % 256) :
    (a.msb = m.msb ∧ r.msb ≠ a.msb) ↔
      (a.toInt + m.toInt + num cin < -128 ∨ 127 < a.toInt + m.toInt + num cin) := by
  have ha := a.isLt
  have hm := m.isLt
  have hc : num cin ≤ 1 := cin.toNat_le
  by_cases hsame : a.msb = m.msb
  · rw [and_iff_right hsame]
    simp only [BitVec.msb_eq_decide, BitVec.toInt_eq_toNat_cond, ne_eq, decide_eq_decide, hr] at hsame ⊢
    omega
  · refine iff_of_false (fun h => hsame h.1) ?_
    simp only [BitVec.msb_eq_decide, BitVec.toInt_eq_toNat_cond, decide_eq_decide] at hsame ⊢
    omega

theorem addWithCarry_ovf_iff_signedSum (a m : Byte) (cin : Bool) :
    (addWithCarry a m cin).ovf = true ↔
      (a.toInt + m.toInt + num cin < -128 ∨ 127 < a.toInt + m.toInt + num cin) :=
  (addWithCarry_ovf_iff_signs a m cin).trans (sign_flips_iff_signedSum_out_of_range (addWithCarry_r_toNat a m cin))

/-- Settles O21: the byte and the carry are the exact sum's, and the mask of R150 tests the signs. -/
theorem adderIsExact : Obligations.AdderIsExact := by
  unfold Obligations.AdderIsExact
  intro a m cin
  exact ⟨addWithCarry_r_toNat a m cin, by rw [addWithCarry_cout, decide_eq_true_iff],
    addWithCarry_ovf_iff_signs a m cin, addWithCarry_ovf_iff_signedSum a m cin⟩

end Sys2Proof.Machine
end

section
/-! AND, ORA and EOR (spec/43_logical.md R170 to R173): each combines A bit by bit with the byte the operand
designates, stores the result in A and sets Z and N from it. -/

namespace Sys2Proof.Machine

open Sys2Proof.Claims

theorem byte_toNat (b : Byte) : byte b.toNat = b := by
  rw [byte, BitVec.ofNat_toNat, BitVec.setWidth_eq]

/-- Over any operation on numbers that reduction to a byte carries to one on bytes: the instruction combines A with the
byte its operand designates, and writes A, Z and N only (R170). -/
theorem logic_completes {i : Instr} {mn : Mnemonic} {combine : Byte → Byte → Byte} {combineNat : Nat → Nat → Nat}
    (h : Is i mn) (he : readEffect mn = some fun m s => logicResult (combine s.a m) s)
    (hbyte : ∀ {x y : Nat}, byte (combineNat x y) = combine (byte x) (byte y)) (s : State) :
    ∃ m, operandValue i s = some m ∧ let r := byte (combineNat s.a.toNat m.toNat)
      Completes i s (withZN r { s with a := r, pc := pcAfter i s }) (cost i s) := by
  obtain ⟨m, hvalue, hdone⟩ := completes_of_readEffect h he s
  have hr : byte (combineNat s.a.toNat m.toNat) = combine s.a m := by rw [hbyte, byte_toNat, byte_toNat]
  rw [logicResult, setZN_eq_withZN, ← hr] at hdone
  exact ⟨m, hvalue, hdone⟩

/-- Settles O28: each mnemonic is its bitwise operation in the shape of `logic_completes`; the rows are those of the
table. -/
theorem logicalResults : Obligations.LogicalResults := by
  unfold Obligations.LogicalResults
  intro i s
  exact ⟨fun h => logic_completes h rfl BitVec.ofNat_and s, fun h => logic_completes h rfl BitVec.ofNat_or s,
    fun h => logic_completes h rfl BitVec.ofNat_xor s,
    by decide +kernel, by decide +kernel, by decide +kernel⟩

end Sys2Proof.Machine
end

section
/-! ASL, LSR, ROL and ROR (spec/44_shift_rotate.md R180 to R184): what each mnemonic does with the byte, and that the
instruction completes with the result stored where its operand is, and nothing else changed. -/

namespace Sys2Proof.Machine

open Sys2Proof.Claims

/-! ### Storing where the operand is -/

theorem stored_of_accumulator {i : Instr} (ho : i.operand = .accumulator) (s : State) (r : Byte) :
    stored i s r = { s with a := r } := by
  rw [stored, ho]

theorem stored_of_address {i : Instr} {s : State} {ea : Nat} (h : address i.operand s = some ea) (r : Byte) :
    stored i s r = { s with mem := s.mem.write ea r } := by
  unfold stored
  cases ho : i.operand with
  | accumulator => rw [ho] at h; cases h
  | _ => rw [ho] at h; simp only [h]

theorem stored_cyc (i : Instr) (s : State) (r : Byte) : (stored i s r).cyc = s.cyc := by
  unfold stored
  split
  · rfl
  · split <;> rfl

/-- A write after the flags are set stores the byte where the operand, resolved before, designates. -/
theorem operandWrite_stored {i : Instr} {s u : State} {r : Byte} {c z n : Bool} {bus : List BusAccess}
    (h : operandWrite (resolve i.operand s).1.operand r { s with c := c, z := z, n := n, bus := bus } = some u) :
    ∃ bus', u = { stored i s r with c := c, z := z, n := n, bus := bus' } := by
  obtain ⟨hacc, rfl⟩ | ⟨ea, hmem, rfl⟩ := operandWrite_some h
  · rw [stored_of_accumulator (resolve_operand_acc hacc)]
    exact ⟨_, rfl⟩
  · rw [stored_of_address (address_of_resolve hmem)]
    exact ⟨_, rfl⟩

/-! ### The four mnemonics -/

/-- The result of each shift or rotate, and the bit of the byte that it shifts out; `none` for the other mnemonics. -/
def shiftEffect : Mnemonic → Option ((Byte → State → Byte) × (Byte → Bool))
  | .ASL => some (aslResult, fun m => bit m 7)
  | .LSR => some (lsrResult, fun m => bit m 0)
  | .ROL => some (rolResult, fun m => bit m 7)
  | .ROR => some (rorResult, fun m => bit m 0)
  | _ => none

/-- No row of a shift or rotate pays a page penalty (R180). -/
theorem lookup_of_shiftEffect : ∀ op : Byte, (shiftEffect (lookup op).mnemonic).isSome →
    (lookup op).penalty = false := by decide +kernel

/-- No shift or rotate looks at the bus record. -/
theorem shiftEffect_result {mn : Mnemonic} {result : Byte → State → Byte} {out : Byte → Bool}
    (he : shiftEffect mn = some (result, out)) (m : Byte) (s : State) (bus : List BusAccess) :
    result m { s with bus := bus } = result m s := by
  cases mn <;> cases he <;> rfl

theorem exec_of_shiftEffect {i : Instr} {result : Byte → State → Byte} {out : Byte → Bool} (hwf : i.WellFormed)
    (he : shiftEffect i.descriptor.mnemonic = some (result, out)) (s : State) :
    exec i s =
      runModify i.opcode i.operand result (fun m u => setZN (result m u) { u with c := out m }) s := by
  cases i with
  | aslAcc | aslZp | aslZpx | aslAbs | aslAbx | lsrAcc | lsrZp | lsrZpx | lsrAbs | lsrAbx | rolAcc | rolZp | rolZpx
  | rolAbs | rolAbx | rorAcc | rorZp | rorZpx | rorAbs | rorAbx =>
    simp [Instr.descriptor, Instr.opcode, shiftEffect] at he
    obtain ⟨rfl, rfl⟩ := he
    rfl
  | ill op =>
    rw [descriptor_ill hwf] at he
    cases he
  | _ => simp [Instr.descriptor, Instr.opcode, shiftEffect] at he

/-- A shift or rotate stores its result where its operand is, sets C to the bit shifted out and Z and N from the
result, moves PC past itself and charges its base cycles only. -/
theorem completes_of_shiftEffect {i : Instr} {mn : Mnemonic} {result : Byte → State → Byte} {out : Byte → Bool}
    (h : Is i mn) (he : shiftEffect mn = some (result, out)) (s : State) :
    ∃ m, operandValue i s = some m ∧
      Completes i s (withZN (result m s) { stored i s (result m s) with c := out m, pc := pcAfter i s })
        i.descriptor.cycles := by
  obtain ⟨hwf, rfl⟩ := h
  obtain ⟨t, hexec, -⟩ := exec_completes i s
  have hrun := hexec
  rw [exec_of_shiftEffect hwf he] at hrun
  obtain ⟨m, s₁, s₂, hread, hwrite, rfl⟩ := runModify_next hrun
  obtain ⟨hvalue, bus, rfl⟩ := operandRead_resolve hread
  rw [shiftEffect_result he, setZN_eq] at hwrite
  obtain ⟨bus', rfl⟩ := operandWrite_stored hwrite
  have hpenalty : i.descriptor.penalty = false :=
    lookup_of_shiftEffect i.opcode (by rw [← Instr.descriptor, he]; rfl)
  have hfree (crossed : Bool) : penalty i.descriptor crossed = 0 := by rw [penalty, hpenalty]; rfl
  have hmn : i.descriptor.mnemonic ≠ .ILL := fun h => by rw [h] at he; cases he
  rw [← Instr.descriptor, hfree, pcNext_descriptor hwf] at hexec
  exact ⟨m, hvalue, completes_of_retireAt (u := withZN (result m s) { stored i s (result m s) with c := out m })
    hexec rfl (stored_cyc i s _) hmn⟩

/-! ### The results as numbers -/

theorem shiftLeft_one_eq (m : Byte) : m <<< 1 = byte (2 * m.toNat) := by
  apply BitVec.eq_of_toNat_eq
  rw [BitVec.toNat_shiftLeft, BitVec.toNat_ofNat, Nat.shiftLeft_eq, Nat.mul_comm]

theorem ushiftRight_one_eq (m : Byte) : m >>> 1 = byte (m.toNat / 2) := by
  apply BitVec.eq_of_toNat_eq
  have := m.isLt
  rw [BitVec.toNat_ushiftRight, BitVec.toNat_ofNat, Nat.shiftRight_eq_div_pow]
  omega

/-- Bit 0 is free after a shift to the left, so the old carry adds 1 there (R183). -/
theorem rolResult_eq (m : Byte) (s : State) : rolResult m s = byte (2 * m.toNat + num s.c) := by
  have hfree : (m <<< 1) &&& 0x01#8 = 0#8 := by
    rw [show 0x01#8 = BitVec.twoPow 8 0 from rfl, BitVec.and_twoPow]
    simp
  cases hc : s.c with
  | false => simp [rolResult, hc, shiftLeft_one_eq]
  | true =>
    rw [rolResult, hc, if_pos rfl, ← BitVec.add_eq_or_of_and_eq_zero _ _ hfree, shiftLeft_one_eq, ← BitVec.ofNat_add]
    rfl

/-- Bit 7 is free after a shift to the right, so the old carry adds 128 there (R184). -/
theorem rorResult_eq (m : Byte) (s : State) : rorResult m s = byte (m.toNat / 2 + 128 * num s.c) := by
  have hfree : (m >>> 1) &&& 0x80#8 = 0#8 := by
    rw [show 0x80#8 = BitVec.twoPow 8 7 from rfl, BitVec.and_twoPow]
    simp
  cases hc : s.c with
  | false => simp [rorResult, hc, ushiftRight_one_eq]
  | true =>
    rw [rorResult, hc, if_pos rfl, ← BitVec.add_eq_or_of_and_eq_zero _ _ hfree, ushiftRight_one_eq, ← BitVec.ofNat_add]
    rfl

/-- Settles O30: each mnemonic is its arithmetic on numbers in the shape of `completes_of_shiftEffect`; the rows are
those of the table. -/
theorem shiftResults : Obligations.ShiftResults := by
  unfold Obligations.ShiftResults
  intro i s
  refine ⟨fun h => ?asl, fun h => ?lsr, fun h => ?rol, fun h => ?ror,
    by decide +kernel, by decide +kernel, by decide +kernel, by decide +kernel⟩
  case asl => simpa only [aslResult, shiftLeft_one_eq, bit_seven] using completes_of_shiftEffect h rfl s
  case lsr => simpa only [lsrResult, ushiftRight_one_eq, bit_zero] using completes_of_shiftEffect h rfl s
  case rol => simpa only [rolResult_eq, bit_seven] using completes_of_shiftEffect h rfl s
  case ror => simpa only [rorResult_eq, bit_zero] using completes_of_shiftEffect h rfl s

end Sys2Proof.Machine
end

section
/-! The flag instructions and NOP (spec/48_stack_transfer_flag.md R251 to R258): an instruction that names no operand
completes with its effect on the state, and each of these has at most one flag as its effect. -/

namespace Sys2Proof.Machine

open Sys2Proof.Claims

/-- An instruction without an operand applies its effect, moves PC past itself and charges its base cycles: it
computes no address, so it pays no page penalty (R113, R127). -/
theorem completes_of_runImplied {i : Instr} {effect : State → State} {mn : Mnemonic} {cycles : Nat} {s : State}
    (hwf : i.WellFormed) (hexec : exec i s = runImplied i.opcode effect s) (hcyc : (effect s).cyc = s.cyc)
    (hrow : i.descriptor = ⟨mn, .implied, cycles, 1, false⟩) (hmn : mn ≠ .ILL) :
    Completes i s { effect s with pc := pcAfter i s } cycles := by
  have hfree : penalty i.descriptor false = 0 := by simp [penalty]
  rw [runImplied_next, ← Instr.descriptor, hfree, pcNext_descriptor hwf] at hexec
  have hdone := completes_of_retireAt hexec rfl hcyc (by rwa [hrow])
  rwa [hrow] at hdone

/-- Settles O44: each instruction's effect in the shape of `completes_of_runImplied`; the rows are those of the table. -/
theorem flagAndNopResults : Obligations.FlagAndNopResults := by
  unfold Obligations.FlagAndNopResults
  intro s
  exact ⟨completes_of_runImplied (effect := fun t => { t with c := false }) rfl rfl rfl lookup_clc nofun,
    completes_of_runImplied (effect := fun t => { t with c := true }) rfl rfl rfl lookup_sec nofun,
    completes_of_runImplied (effect := fun t => { t with i := false }) rfl rfl rfl lookup_cli nofun,
    completes_of_runImplied (effect := fun t => { t with i := true }) rfl rfl rfl lookup_sei nofun,
    completes_of_runImplied (effect := fun t => { t with d := false }) rfl rfl rfl lookup_cld nofun,
    completes_of_runImplied (effect := fun t => { t with d := true }) rfl rfl rfl lookup_sed nofun,
    completes_of_runImplied (effect := fun t => { t with v := false }) rfl rfl rfl lookup_clv nofun,
    completes_of_runImplied (effect := id) rfl rfl rfl lookup_nop nofun,
    by decide +kernel, by decide +kernel, by decide +kernel, by decide +kernel,
    by decide +kernel, by decide +kernel, by decide +kernel, by decide +kernel⟩

end Sys2Proof.Machine
end

section
/-! The two outputs of a step (spec/49_step_fsm.md R288): an instruction retires with the descriptor of the opcode byte
it was fetched from, whose mnemonic decides `illegal_op`; a step that executes none leaves `illegal_op` at 0. -/

namespace Sys2Proof

/-- Every instruction but `ill` is well formed as it stands (R86). -/
theorem Instr.wellFormed_of_ne_ill {i : Instr} (h : ∀ op, i ≠ .ill op) : i.WellFormed := by
  cases i with
  | ill op => exact absurd rfl (h op)
  | _ => rfl

/-- Whatever operand bytes an assembler is given, it makes a well-formed instruction of opcode `op`. -/
def Assembler.Makes (op : Byte) : Assembler → Prop
  | .f1 i => i.opcode = op ∧ i.WellFormed
  | .f2 make => ∀ b, (make b).opcode = op ∧ (make b).WellFormed
  | .f3 make => ∀ w, (make w).opcode = op ∧ (make w).WellFormed

/-- The table is first written out row by row, so that each opcode is looked up as a literal. -/
theorem lookupRow_makes_of_mem : ∀ r ∈ opcodeTable, (lookupRow r.opcode).make.Makes r.opcode := by
  simp only [opcodeTable, opcodeGrid, opcodeRows0, opcodeRows1, opcodeRows2, opcodeRows3, opcodeRows4, opcodeRows5,
    opcodeRows6, opcodeRows7, opcodeRows8, opcodeRows9, opcodeRowsA, opcodeRowsB, opcodeRowsC, opcodeRowsD,
    opcodeRowsE, opcodeRowsF, List.flatten_cons, List.flatten_nil, List.forall_mem_append, List.forall_mem_cons]
  simp [Assembler.Makes, Instr.opcode, Instr.WellFormed, Instr.wellFormed_of_ne_ill]

/-- The row a byte selects, documented or not, makes instructions of that opcode (R83, R92). -/
theorem lookupRow_makes (op : Byte) : (lookupRow op).make.Makes op := by
  rcases opcode_cases op with hill | ⟨r, hr, rfl⟩
  · rw [make_ill hill]
    exact ⟨rfl, List.contains_iff_mem.mpr hill⟩
  · exact lookupRow_makes_of_mem r hr

end Sys2Proof

namespace Sys2Proof.Machine

open Sys2Proof.Claims

/-! ### An instruction retires with its own descriptor -/

theorem fetch_makes (s : State) :
    (fetch s).1.opcode = s.mem.read s.pc.toNat ∧ (fetch s).1.WellFormed := by
  have hmakes := lookupRow_makes (s.mem.read s.pc.toNat)
  simp only [fetch, memRead_fst]
  cases hm : (lookupRow (s.mem.read s.pc.toNat)).make with
  | f1 i => rw [hm] at hmakes; exact hmakes
  | f2 make => rw [hm] at hmakes; exact hmakes _
  | f3 make => rw [hm] at hmakes; exact hmakes _

theorem fetch_descriptor (s : State) : (fetch s).1.descriptor = lookup (s.mem.read s.pc.toNat) := by
  rw [Instr.descriptor, (fetch_makes s).1]

/-- Every shape of an instruction ends by retiring, whatever its arm did before (R283). -/
theorem exec_retires {i : Instr} {s t : State} (hwf : i.WellFormed) (h : exec i s = .next t) :
    ∃ k pc u, t = retireAt i.descriptor k pc u := by
  unfold exec at h
  cases i with
  | inx | iny | dex | dey | pha | pla | php | plp | tsx | txs | tax | tay | txa | tya | clc | sec | cli | sei | cld
  | sed | clv | nop | rts | brk | rti =>
    cases h
    exact ⟨_, _, _, rfl⟩
  | ldaImm | ldaZp | ldaZpx | ldaAbs | ldaAbx | ldaAby | ldaIzx | ldaIzy | ldxImm | ldxZp | ldxZpy | ldxAbs | ldxAby
  | ldyImm | ldyZp | ldyZpx | ldyAbs | ldyAbx | adcImm | adcZp | adcZpx | adcAbs | adcAbx | adcAby | adcIzx | adcIzy
  | sbcImm | sbcZp | sbcZpx | sbcAbs | sbcAbx | sbcAby | sbcIzx | sbcIzy | andImm | andZp | andZpx | andAbs | andAbx
  | andAby | andIzx | andIzy | oraImm | oraZp | oraZpx | oraAbs | oraAbx | oraAby | oraIzx | oraIzy | eorImm | eorZp
  | eorZpx | eorAbs | eorAbx | eorAby | eorIzx | eorIzy | bitZp | bitAbs | cmpImm | cmpZp | cmpZpx | cmpAbs | cmpAbx
  | cmpAby | cmpIzx | cmpIzy | cpxImm | cpxZp | cpxAbs | cpyImm | cpyZp | cpyAbs =>
    obtain ⟨_, _, -, rfl⟩ := runRead_next h
    exact ⟨_, _, _, rfl⟩
  | staZp | staZpx | staAbs | staAbx | staAby | staIzx | staIzy | stxZp | stxZpy | stxAbs | styZp | styZpx | styAbs =>
    obtain ⟨_, -, rfl⟩ := runWrite_next h
    exact ⟨_, _, _, rfl⟩
  | incZp | incZpx | incAbs | incAbx | decZp | decZpx | decAbs | decAbx | aslAcc | aslZp | aslZpx | aslAbs | aslAbx
  | lsrAcc | lsrZp | lsrZpx | lsrAbs | lsrAbx | rolAcc | rolZp | rolZpx | rolAbs | rolAbx | rorAcc | rorZp | rorZpx
  | rorAbs | rorAbx =>
    obtain ⟨_, _, _, -, -, rfl⟩ := runModify_next h
    exact ⟨_, _, _, rfl⟩
  | jmpAbs | jmpInd | jsr =>
    obtain ⟨_, -, rfl⟩ := runJump_next h
    exact ⟨_, _, _, rfl⟩
  | bcc | bcs | beq | bne | bmi | bpl | bvc | bvs =>
    obtain ⟨_, -, ⟨-, rfl⟩ | ⟨-, rfl⟩⟩ := runBranch_next h <;> exact ⟨_, _, _, rfl⟩
  | ill op =>
    cases h
    rw [descriptor_ill hwf]
    exact ⟨_, _, _, rfl⟩

theorem exec_illegalOp {i : Instr} {s t : State} (hwf : i.WellFormed) (h : exec i s = .next t) :
    t.illegalOp = true ↔ i.descriptor.mnemonic = .ILL := by
  obtain ⟨k, pc, u, rfl⟩ := exec_retires hwf h
  rw [retireAt_illegalOp, beq_iff_eq]

/-! ### The outputs of a step that executes an instruction, and of one that does not -/

@[simp] theorem enterInterrupt_illegalOp (ret : Word) (brk : Bool) (vec : Word) (s : State) :
    (enterInterrupt ret brk vec s).illegalOp = s.illegalOp := by
  rw [enterInterrupt_eq]

theorem interruptEntry_outputs (kind : InterruptKind) (s : State) :
    (interruptEntry kind s).illegalOp = s.illegalOp ∧
      (interruptEntry kind s).cyc = s.cyc + (interruptEntry kind s).cycles := by
  cases kind with
  | nmi => simp [interruptEntry_nmi]
  | irq => simp [interruptEntry_irq]

theorem exec_of_executes {s t : State} (h : step s = .next t) (hx : Executes s) :
    exec (fetch (clearOutputs s)).1 (fetch (clearOutputs s)).2 = .next t := by
  obtain ⟨hrun, hnmi, hirq⟩ := hx
  rcases step_next h with ⟨hf, -⟩ | ⟨hf, -⟩ | ⟨-, hn, -⟩ | ⟨-, -, hq, hi, -⟩ | ⟨-, -, -, hexec⟩
  · cases hf.symm.trans hrun
  · cases hf.symm.trans hrun
  · cases hn.symm.trans hnmi
  · simp [hq, hi] at hirq
  · exact hexec

theorem outputs_of_not_executes {s t : State} (h : step s = .next t) (hx : ¬ Executes s) :
    t.illegalOp = false ∧ t.cyc = s.cyc + t.cycles := by
  rcases step_next h with ⟨-, rfl⟩ | ⟨-, rfl⟩ | ⟨-, -, rfl⟩ | ⟨-, -, -, -, rfl⟩ | ⟨hrun, hnmi, hirq, -⟩
  · exact ⟨rfl, rfl⟩
  · exact ⟨rfl, rfl⟩
  · exact interruptEntry_outputs .nmi (clearOutputs s)
  · exact interruptEntry_outputs .irq (clearOutputs s)
  · exact absurd ⟨hrun, hnmi, hirq⟩ hx

theorem outputs_of_executes {s t : State} (h : step s = .next t) (hx : Executes s) :
    (t.illegalOp = true ↔ (lookup (s.mem.read s.pc.toNat)).mnemonic = .ILL) ∧ t.cyc = s.cyc + t.cycles := by
  have hexec := exec_of_executes h hx
  obtain ⟨u, hu, hcyc, -⟩ := exec_completes (fetch (clearOutputs s)).1 (fetch (clearOutputs s)).2
  obtain rfl : t = u := Host.Outcome.next.inj (hexec.symm.trans hu)
  obtain ⟨_, hfetched⟩ := fetch_state (clearOutputs s)
  have hill := exec_illegalOp (fetch_makes (clearOutputs s)).2 hexec
  rw [fetch_descriptor] at hill
  rw [hfetched] at hcyc
  exact ⟨hill, hcyc⟩

/-- A step begins by clearing the outputs, so it does not see what an earlier one left in them (R280). -/
theorem step_arch (s : State) : step (arch s) = step s := rfl

/-- Settles O50, by whether the step executes an instruction. -/
theorem illegalOpSignal : Obligations.IllegalOpSignal := by
  unfold Obligations.IllegalOpSignal
  refine ⟨fun s t h => ?_, step_arch⟩
  by_cases hx : Executes s
  · obtain ⟨hill, hcyc⟩ := outputs_of_executes h hx
    exact ⟨by rw [hill, and_iff_right hx], hcyc⟩
  · obtain ⟨hill, hcyc⟩ := outputs_of_not_executes h hx
    exact ⟨by simp [hill, hx], hcyc⟩

end Sys2Proof.Machine
end

section
/-! Encoding and decoding (spec/30_encoding.md R80 to R92): every row's assembler makes instructions whose operand bytes
are those it was given, and makes every instruction of its opcode, so that decoding and encoding invert each other; a
step fetches the instruction that the bytes at PC decode to. -/

namespace Sys2Proof

open Sys2Proof.Machine Sys2Proof.Claims

/-! ### What an assembler makes -/

/-- The instructions of an assembler carry the operand bytes it was given, the low byte of a word first (R81, R86). -/
def Assembler.KeepsBytes : Assembler → Prop
  | .f1 i => i.operand.bytes = []
  | .f2 make => ∀ b, (make b).operand.bytes = [b]
  | .f3 make => ∀ w, (make w).operand.bytes = [lo w, hi w]

/-- The table is first written out row by row, so that each opcode is looked up as a literal. -/
theorem lookupRow_keepsBytes_of_mem : ∀ r ∈ opcodeTable, (lookupRow r.opcode).make.KeepsBytes := by
  simp only [opcodeTable, opcodeGrid, opcodeRows0, opcodeRows1, opcodeRows2, opcodeRows3, opcodeRows4, opcodeRows5,
    opcodeRows6, opcodeRows7, opcodeRows8, opcodeRows9, opcodeRowsA, opcodeRowsB, opcodeRowsC, opcodeRowsD,
    opcodeRowsE, opcodeRowsF, List.flatten_cons, List.flatten_nil, List.forall_mem_append, List.forall_mem_cons]
  simp [Assembler.KeepsBytes, Instr.operand, Operand.bytes]

theorem lookupRow_keepsBytes (op : Byte) : (lookupRow op).make.KeepsBytes := by
  rcases opcode_cases op with hill | ⟨r, hr, rfl⟩
  · rw [make_ill hill]
    rfl
  · exact lookupRow_keepsBytes_of_mem r hr

/-- Some operand bytes make an assembler yield the instruction. -/
def Assembler.Yields (i : Instr) : Assembler → Prop
  | .f1 j => j = i
  | .f2 make => ∃ b, make b = i
  | .f3 make => ∃ w, make w = i

/-- The row of a well-formed instruction's opcode yields it: one constructor is one row (R90, R92). -/
theorem lookupRow_yields {i : Instr} (hwf : i.WellFormed) : (lookupRow i.opcode).make.Yields i := by
  cases i with
  | ill op =>
    rw [Instr.opcode, make_ill (List.contains_iff_mem.mp hwf)]
    rfl
  | _ => simp [Instr.opcode, Assembler.Yields]

/-! ### Decoding and encoding -/

/-- Settles O1: the row of the opcode yields the instruction from some operand bytes, and these are the ones it
encodes. -/
theorem decodeInvertsEncode : Obligations.DecodeInvertsEncode := by
  unfold Obligations.DecodeInvertsEncode
  intro i rest hwf
  have hyields := lookupRow_yields hwf
  have hkeeps := lookupRow_keepsBytes i.opcode
  cases hmake : (lookupRow i.opcode).make with
  | f1 j =>
    rw [hmake] at hyields hkeeps
    obtain rfl : j = i := hyields
    have hbytes : j.operand.bytes = [] := hkeeps
    simp only [encode, hbytes, List.cons_append, List.nil_append, decode, hmake]
  | f2 make =>
    rw [hmake] at hyields hkeeps
    obtain ⟨b, rfl⟩ := hyields
    simp only [encode, hkeeps b, List.cons_append, List.nil_append, decode, hmake]
  | f3 make =>
    rw [hmake] at hyields hkeeps
    obtain ⟨w, rfl⟩ := hyields
    simp only [encode, hkeeps w, List.cons_append, List.nil_append, decode, hmake, word_hi_lo]

/-- What bytes that decode look like, by the format of the row their opcode byte selects (R81, R86). -/
theorem decode_eq_ok {bytes rest : List Byte} {i : Instr} (h : decode bytes = .ok (i, rest)) :
    ∃ op, ((lookupRow op).make = .f1 i ∧ bytes = op :: rest) ∨
      (∃ make b, (lookupRow op).make = .f2 make ∧ i = make b ∧ bytes = op :: b :: rest) ∨
      ∃ make l h, (lookupRow op).make = .f3 make ∧ i = make (word h l) ∧ bytes = op :: l :: h :: rest := by
  unfold decode at h
  split at h
  · cases h
  next op operands =>
    refine ⟨op, ?_⟩
    split at h
    · cases h
      exact .inl ⟨‹_›, rfl⟩
    · cases h
      exact .inr (.inl ⟨_, _, ‹_›, rfl, rfl⟩)
    · cases h
      exact .inr (.inr ⟨_, _, _, ‹_›, rfl, rfl⟩)
    · cases h

/-- Settles O2: the row an opcode byte selects makes well-formed instructions of that opcode, which keep the operand
bytes. -/
theorem encodeInvertsDecode : Obligations.EncodeInvertsDecode := by
  unfold Obligations.EncodeInvertsDecode
  intro bytes rest i h
  obtain ⟨op, hrow⟩ := decode_eq_ok h
  have hmakes := lookupRow_makes op
  have hkeeps := lookupRow_keepsBytes op
  rcases hrow with ⟨hm, rfl⟩ | ⟨make, b, hm, rfl, rfl⟩ | ⟨make, l, u, hm, rfl, rfl⟩
  · rw [hm] at hmakes hkeeps
    obtain ⟨hop, hwf⟩ := hmakes
    have hbytes : i.operand.bytes = [] := hkeeps
    exact ⟨hwf, by simp [encode, hop, hbytes]⟩
  · rw [hm] at hmakes hkeeps
    obtain ⟨hop, hwf⟩ := hmakes b
    exact ⟨hwf, by simp [encode, hop, hkeeps b]⟩
  · rw [hm] at hmakes hkeeps
    obtain ⟨hop, hwf⟩ := hmakes (word u l)
    exact ⟨hwf, by simp [encode, hop, hkeeps (word u l)]⟩

/-! ### The table -/

/-- Settles O4, over the 256 bytes. -/
theorem penaltyEligibleDescriptors : Obligations.PenaltyEligibleDescriptors := by
  unfold Obligations.PenaltyEligibleDescriptors
  exact ⟨by decide +kernel, by decide +kernel⟩

/-- Settles O5, over the 256 bytes. -/
theorem baseCyclesOfTable : Obligations.BaseCyclesOfTable := by
  unfold Obligations.BaseCyclesOfTable
  decide +kernel

/-- Settles O6: each word is decoded. -/
theorem writtenWordsDecode : Obligations.WrittenWordsDecode := by
  unfold Obligations.WrittenWordsDecode
  decide +kernel

end Sys2Proof

namespace Sys2Proof.Machine

open Sys2Proof.Claims

/-! ### Fetching -/

theorem add_ofNat_toNat (w : Word) (k : Nat) : (w + BitVec.ofNat 16 k).toNat = (w.toNat + k) % 65536 := by
  rw [BitVec.toNat_add, BitVec.toNat_ofNat, Nat.add_mod_mod]

/-- The fetch reads the bytes at PC that its row's format has, and makes the instruction they decode to (R58). -/
theorem fetch_decodes (s : State) : ∃ rest, decode (bytesAt s) = .ok ((fetch s).1, rest) := by
  have h1 : (s.pc + 1).toNat = (s.pc.toNat + 1) % 65536 := add_ofNat_toNat s.pc 1
  have h2 : (s.pc + 2).toNat = (s.pc.toNat + 2) % 65536 := add_ofNat_toNat s.pc 2
  rw [bytesAt, ← h1, ← h2]
  simp only [decode, fetch, memRead_fst]
  cases (lookupRow (s.mem.read s.pc.toNat)).make with
  | f1 | f2 | f3 => exact ⟨_, rfl⟩

theorem fetch_clearOutputs_fst (s : State) : (fetch (clearOutputs s)).1 = (fetch s).1 := by
  simp only [fetch, memRead_fst, clearOutputs_mem, clearOutputs_pc]
  cases (lookupRow (s.mem.read s.pc.toNat)).make with
  | f1 | f2 | f3 => rfl

/-- Fetching records one read for each byte of the instruction, and changes nothing else (R58). -/
theorem fetch_clearOutputs_snd (s : State) : (fetch (clearOutputs s)).2 = fetched (fetch s).1 s := by
  have hkeeps := lookupRow_keepsBytes (s.mem.read s.pc.toNat)
  have hpc : s.pc.toNat % 65536 = s.pc.toNat := Nat.mod_eq_of_lt s.pc.isLt
  simp only [fetch, memRead_fst, clearOutputs_mem, clearOutputs_pc]
  cases hm : (lookupRow (s.mem.read s.pc.toNat)).make with
  | f1 i =>
    rw [hm] at hkeeps
    have hbytes : i.operand.bytes = [] := hkeeps
    simp [fetched, encode, hbytes, List.range_succ, hpc, memRead, clearOutputs]
  | f2 make =>
    rw [hm] at hkeeps
    simp [fetched, encode, hkeeps _, List.range_succ, hpc, memRead, clearOutputs]
  | f3 make =>
    rw [hm] at hkeeps
    simp [fetched, encode, hkeeps _, List.range_succ, hpc, memRead, readPair, clearOutputs]

theorem step_of_executes {s : State} (h : Executes s) : step s = exec (fetch s).1 (fetched (fetch s).1 s) := by
  obtain ⟨hrun, hnmi, hirq⟩ := h
  have hmask : (s.irqPend && !s.i) = false := by rcases hirq with h | h <;> simp [h]
  have hstep : step s = executeOne (clearOutputs s) := by
    simp [step, controlStep, runningStep, hrun, hnmi, hmask]
  rw [hstep, executeOne, fetch_clearOutputs_fst, fetch_clearOutputs_snd]

/-- The instruction a step executes is the one its bytes decode to, and is well formed. -/
theorem fetch_of_decode {s : State} {i : Instr} {rest : List Byte} (h : decode (bytesAt s) = .ok (i, rest)) :
    (fetch s).1 = i ∧ i.WellFormed := by
  obtain ⟨rest', hdec⟩ := fetch_decodes s
  rw [h] at hdec
  cases hdec
  exact ⟨rfl, (fetch_makes s).2⟩

/-- Settles O7: fetching is decoding the bytes at PC, and three bytes are enough for any opcode. -/
theorem stepRunsDecodedInstruction : Obligations.StepRunsDecodedInstruction := by
  unfold Obligations.StepRunsDecodedInstruction
  refine ⟨fun s i rest hx hdec => ?_, fun s => ⟨_, fetch_decodes s⟩⟩
  obtain ⟨rfl, -⟩ := fetch_of_decode hdec
  exact step_of_executes hx

end Sys2Proof.Machine
end

section
/-! The canonical form of memory (spec/20_memory.md R52, R53): what memory reads determines it. -/

namespace Sys2Proof.Machine.Memory

/-- A canonical memory that reads like one with a first cell lists no later address only. -/
theorem not_all_above_first {m m' : Memory} {k : Nat} {w : Byte} (hm : wf ((k, w) :: m))
    (hread : ∀ a < 65536, read ((k, w) :: m) a = read m' a) : ¬ ∀ p ∈ m', k < p.1 := by
  intro habove
  obtain ⟨-, hk, hw, -⟩ := wf_cons.mp hm
  have hfirst := hread k hk
  rw [read_cons, if_pos rfl, read_of_lt habove] at hfirst
  exact hw hfirst

theorem eq_of_read_eq {m m' : Memory} (hm : wf m) (hm' : wf m') (hread : ∀ a < 65536, read m a = read m' a) :
    m = m' := by
  induction m generalizing m' with
  | nil =>
    cases m' with
    | nil => rfl
    | cons p m' => exact absurd (by simp) (not_all_above_first hm' fun a ha => (hread a ha).symm)
  | cons p m ih =>
    obtain ⟨k, w⟩ := p
    obtain ⟨hlt, hk, -, hwf⟩ := wf_cons.mp hm
    cases m' with
    | nil => exact absurd (by simp) (not_all_above_first hm hread)
    | cons q m' =>
      obtain ⟨k', w'⟩ := q
      obtain ⟨hlt', -, -, hwf'⟩ := wf_cons.mp hm'
      have above {j j' : Nat} {v : Byte} {n : Memory} (h : j < j') (hn : ∀ p ∈ n, j' < p.1) :
          ∀ p ∈ (j', v) :: n, j < p.1 := by
        rw [List.forall_mem_cons]
        exact ⟨h, fun p hp => h.trans (hn p hp)⟩
      obtain rfl : k = k' := by
        rcases lt_trichotomy k k' with h | h | h
        · exact absurd (above h hlt') (not_all_above_first hm hread)
        · exact h
        · exact absurd (above h hlt) (not_all_above_first hm' fun a ha => (hread a ha).symm)
      have hw : w = w' := by simpa [read_cons] using hread k hk
      have htails : m = m' := by
        refine ih hwf hwf' fun a ha => ?_
        by_cases hak : k = a
        · rw [read_of_lt (hak ▸ hlt), read_of_lt (hak ▸ hlt')]
        · simpa [read_cons, hak] using hread a ha
      rw [hw, htails]

/-- Settles O13: the first addresses agree, and then the cells behind them. -/
theorem canonicalMemoriesAgree : Obligations.CanonicalMemoriesAgree := by
  unfold Obligations.CanonicalMemoriesAgree
  intro m m' hm hm' hread
  exact eq_of_read_eq hm hm' hread

end Sys2Proof.Machine.Memory
end

section
/-! The resolver's results in plain arithmetic (spec/40_addressing.md R113 to R125). -/

namespace Sys2Proof.Machine

open Sys2Proof.Claims

theorem eq_ofNat_of_toNat {w : Word} {n : Nat} (h : w.toNat = n) : w = BitVec.ofNat 16 n := by
  rw [← h, BitVec.ofNat_toNat, BitVec.setWidth_eq]

theorem eq_ofNat_of_toNat_mod {w : Word} {n : Nat} (h : w.toNat = n % 65536) : w = BitVec.ofNat 16 n :=
  BitVec.eq_of_toNat_eq (h.trans (BitVec.toNat_ofNat n 16).symm)

/-- An indexed address as a number: the sum modulo 65536, and a crossing where it leaves the base's page (R112). -/
theorem indexed_zext16 {base : Word} {n : Nat} (hbase : base.toNat = n) (b : Byte) :
    indexed base (zext16 b) =
      ⟨.mem (BitVec.ofNat 16 (n + b.toNat)), decide (n / 256 ≠ (n + b.toNat) % 65536 / 256)⟩ := by
  subst hbase
  rw [indexed, pageCrossed_eq, add_zext16_toNat, ← eq_ofNat_of_toNat_mod (add_zext16_toNat base b)]

/-- Resolving leaves everything but the bus record. -/
theorem resolve_arch (o : Operand) (s : State) : arch (resolve o s).2 = arch s := by
  obtain ⟨_, hst⟩ := resolve_state o s
  rw [hst]
  rfl

/-- Settles O14: each mode by its definition. -/
theorem resolveDirectModes : Obligations.ResolveDirectModes := by
  unfold Obligations.ResolveDirectModes
  intro s b w
  refine ⟨rfl, rfl, rfl, ?_, ?_, ?_, rfl⟩
  · rw [← eq_ofNat_of_toNat (zext16_toNat b)]
    rfl
  · rw [← eq_ofNat_of_toNat (zext16_add_toNat b s.x)]
    rfl
  · rw [← eq_ofNat_of_toNat (zext16_add_toNat b s.y)]
    rfl

/-- Settles O15: both modes are an index added to the operand's address. -/
theorem resolveIndexedAbsolute : Obligations.ResolveIndexedAbsolute := by
  unfold Obligations.ResolveIndexedAbsolute
  intro s w
  exact ⟨by rw [← indexed_zext16 rfl]; rfl, by rw [← indexed_zext16 rfl]; rfl⟩

/-- Settles O16: the pointer's high byte is read at the next address of the same page. -/
theorem indirectPointerStaysInPage : Obligations.IndirectPointerStaysInPage := by
  unfold Obligations.IndirectPointerStaysInPage
  intro s w
  refine ⟨?_, resolve_arch _ s, ?_⟩
  · rw [← eq_ofNat_of_toNat (read16Bug_toNat w s)]
    rfl
  · rw [← nextInPage_toNat]
    simp [resolve, read16Bug, shape]

/-- Settles O17: both pointer bytes are read at addresses reduced modulo 256. -/
theorem zeroPagePointersWrap : Obligations.ZeroPagePointersWrap := by
  unfold Obligations.ZeroPagePointersWrap
  intro s b
  refine ⟨?_, ?_, resolve_arch _ s, resolve_arch _ s⟩
  · rw [← eq_ofNat_of_toNat (read16ZP_add_toNat b s.x s)]
    rfl
  · exact indexed_zext16 (read16ZP_toNat b s) s.y

/-- Settles O18: the base of the sum and of the page comparison is PC plus 2. -/
theorem resolveRelative : Obligations.ResolveRelative := by
  unfold Obligations.ResolveRelative
  intro s b
  have hbase : (s.pc + 2).toNat = (s.pc.toNat + 2) % 65536 := add_ofNat_toNat s.pc 2
  rw [resolve, indexed, pageCrossed_eq, add_sext16_toNat, hbase, add_sext16_eq]

end Sys2Proof.Machine
end

section
/-! ADC, SBC, the compares and BIT (spec/42_arithmetic.md R151, R152; spec/45_compare.md R190; spec/43_logical.md
R174): the effect of each on the byte its operand designates, as arithmetic on numbers. -/

namespace Sys2Proof.Machine

open Sys2Proof.Claims

/-! ### The effects as numbers -/

theorem addWithCarry_ovf_eq (a m : Byte) (cin : Bool) :
    (addWithCarry a m cin).ovf =
      decide (a.toInt + m.toInt + num cin < -128 ∨ 127 < a.toInt + m.toInt + num cin) := by
  rw [Bool.eq_iff_iff, decide_eq_true_iff]
  exact addWithCarry_ovf_iff_signedSum a m cin

theorem addToA_eq (m : Byte) (s : State) :
    addToA m s = withZN (byte (s.a.toNat + m.toNat + num s.c)) { s with
      a := byte (s.a.toNat + m.toNat + num s.c), c := decide (255 < s.a.toNat + m.toNat + num s.c),
      v := decide (s.a.toInt + m.toInt + num s.c < -128 ∨ 127 < s.a.toInt + m.toInt + num s.c) } := by
  rw [← addWithCarry_ovf_eq, addToA, setZN_eq_withZN]
  rfl

theorem complement_toNat (m : Byte) : (m ^^^ 0xFF#8).toNat = 255 - m.toNat := by
  rw [show (0xFF#8) = BitVec.allOnes 8 from rfl, BitVec.xor_allOnes, BitVec.toNat_not]

theorem complement_toInt (m : Byte) : (m ^^^ 0xFF#8).toInt = -1 - m.toInt := by
  have := m.isLt
  rw [BitVec.toInt_eq_toNat_cond, BitVec.toInt_eq_toNat_cond, complement_toNat]
  omega

/-- Adding the complement and the carry subtracts the operand and the borrow (R152). -/
theorem subFromA_eq (m : Byte) (s : State) :
    let r : Byte := BitVec.ofInt 8 ((s.a.toNat : Int) - m.toNat - (1 - num s.c))
    let signed := s.a.toInt - m.toInt - (1 - num s.c)
    subFromA m s = withZN r { s with
      a := r, c := decide (m.toNat + (1 - num s.c) ≤ s.a.toNat), v := decide (signed < -128 ∨ 127 < signed) } := by
  have hm := m.isLt
  have hc : num s.c ≤ 1 := s.c.toNat_le
  have hbyte : byte (s.a.toNat + (255 - m.toNat) + num s.c) =
      BitVec.ofInt 8 ((s.a.toNat : Int) - m.toNat - (1 - num s.c)) := by
    apply BitVec.eq_of_toNat_eq
    rw [BitVec.toNat_ofNat, BitVec.toNat_ofInt]
    omega
  have hcarry : 255 < s.a.toNat + (255 - m.toNat) + num s.c ↔ m.toNat + (1 - num s.c) ≤ s.a.toNat := by omega
  have hsigned : s.a.toInt + (-1 - m.toInt) + num s.c = s.a.toInt - m.toInt - (1 - num s.c) := by omega
  rw [subFromA, addToA_eq, complement_toNat, complement_toInt, hbyte, hsigned, decide_eq_decide.mpr hcarry]

/-- The comparison is the difference's carry, zero and sign, and does not see the old carry (R190). -/
theorem compareFlags_eq (reg m : Byte) (s : State) :
    compareFlags reg m s = { s with
      c := decide (m.toNat ≤ reg.toNat)
      z := decide (reg = m)
      n := decide (128 ≤ (reg.toNat + 256 - m.toNat) % 256) } := by
  have hreg := reg.isLt
  have hm := m.isLt
  have hr : (addWithCarry reg (m ^^^ 0xFF#8) true).r.toNat = (reg.toNat + 256 - m.toNat) % 256 := by
    rw [addWithCarry_r_toNat, complement_toNat, num, Bool.toNat_true]
    omega
  have hcarry : 255 < reg.toNat + (255 - m.toNat) + 1 ↔ m.toNat ≤ reg.toNat := by omega
  have hzero : (reg.toNat + 256 - m.toNat) % 256 = 0 ↔ reg = m := by
    rw [← BitVec.toNat_inj]
    omega
  rw [compareFlags, setZN_eq, hr, addWithCarry_cout, complement_toNat, num, Bool.toNat_true,
    decide_eq_decide.mpr hcarry, decide_eq_decide.mpr hzero]

theorem bitTest_eq (m : Byte) (s : State) :
    bitTest m s = { s with
      z := decide (s.a.toNat &&& m.toNat = 0), n := decide (128 ≤ m.toNat), v := decide (m.toNat / 64 % 2 = 1) } := by
  have hsix : bit m 6 = decide (m.toNat / 64 % 2 = 1) := bit_eq m 6
  rw [bitTest, isZero_eq, BitVec.toNat_and, bit_seven, hsix]

/-! ### The instructions -/

/-- Settles O22: the effect of ADC is the exact sum; the rows are those of the table. -/
theorem adcResult : Obligations.AdcResult := by
  unfold Obligations.AdcResult
  intro i s
  refine ⟨fun h => ?_, by decide +kernel⟩
  obtain ⟨m, hvalue, hdone⟩ := completes_of_readEffect h rfl s
  rw [addToA_eq] at hdone
  exact ⟨m, hvalue, hdone⟩

/-- Settles O23: the effect of SBC is the exact difference; the rows are those of the table. -/
theorem sbcResult : Obligations.SbcResult := by
  unfold Obligations.SbcResult
  intro i s
  refine ⟨fun h => ?_, by decide +kernel⟩
  obtain ⟨m, hvalue, hdone⟩ := completes_of_readEffect h rfl s
  rw [subFromA_eq] at hdone
  exact ⟨m, hvalue, hdone⟩

/-- Settles O24: the complement of `b` and the carry take away modulo 256 what adding `b` put in. -/
theorem subtractUndoesAdd : Obligations.SubtractUndoesAdd := by
  unfold Obligations.SubtractUndoesAdd
  intro s b hc
  refine ⟨_, _, rfl, rfl, ?_⟩
  show (addWithCarry (addWithCarry s.a b s.c).r (b ^^^ 0xFF#8) true).r = s.a
  apply BitVec.eq_of_toNat_eq
  have := s.a.isLt
  have := b.isLt
  rw [addWithCarry_r_toNat, addWithCarry_r_toNat, complement_toNat, hc, num, num, Bool.toNat_true, Bool.toNat_false]
  omega

/-- A compare of register `reg` in the shape of `completes_of_readEffect`. -/
theorem compare_completes {i : Instr} {mn : Mnemonic} {reg : State → Byte} (h : Is i mn)
    (he : readEffect mn = some fun m s => compareFlags (reg s) m s) (s : State) :
    ∃ m, operandValue i s = some m ∧
      Completes i s { s with
        c := decide (m.toNat ≤ (reg s).toNat)
        z := decide (reg s = m)
        n := decide (128 ≤ ((reg s).toNat + 256 - m.toNat) % 256)
        pc := pcAfter i s } (cost i s) := by
  obtain ⟨m, hvalue, hdone⟩ := completes_of_readEffect h he s
  rw [compareFlags_eq] at hdone
  exact ⟨m, hvalue, hdone⟩

/-- Settles O32: the three compares are `compareFlags` of their register; the rows are those of the table. -/
theorem compareResults : Obligations.CompareResults := by
  unfold Obligations.CompareResults
  intro i s
  refine ⟨?_, by decide +kernel, by decide +kernel, by decide +kernel⟩
  rintro mn reg (h | h | h) his <;> cases h
  · exact compare_completes (reg := State.a) his rfl s
  · exact compare_completes (reg := State.x) his rfl s
  · exact compare_completes (reg := State.y) his rfl s

/-- Settles O29: the effect of BIT as numbers; the rows are those of the table. -/
theorem bitTestResult : Obligations.BitTestResult := by
  unfold Obligations.BitTestResult
  intro i s
  refine ⟨fun h => ?_, by decide +kernel⟩
  obtain ⟨m, hvalue, hdone⟩ := completes_of_readEffect h rfl s
  rw [bitTest_eq] at hdone
  exact ⟨m, hvalue, hdone⟩

end Sys2Proof.Machine
end

section
/-! INC, DEC and their register forms (spec/42_arithmetic.md R155 to R160), nine rotates of the accumulator
(spec/44_shift_rotate.md R183), and the six transfers (spec/48_stack_transfer_flag.md R245 to R250). -/

namespace Sys2Proof.Machine

open Sys2Proof.Claims

/-! ### Reading and restating a completed instruction -/

/-- What `Completes` says of any next state the instruction is known to answer. -/
theorem arch_of_completes {i : Instr} {s t u : State} {k : Nat} (h : Completes i s u k) (hexec : exec i s = .next t) :
    arch t = arch { u with cyc := s.cyc + k } ∧ t.cycles = k := by
  obtain ⟨t', hexec', harch, hcycles, -⟩ := h
  obtain rfl : t = t' := Host.Outcome.next.inj (hexec.symm.trans hexec')
  exact ⟨harch, hcycles⟩

/-- The outputs and the bus record of the state that `Completes` names do not matter. -/
theorem completes_congr {i : Instr} {s u u' : State} {k : Nat} (h : Completes i s u k) (hu : arch u = arch u') :
    Completes i s u' k := by
  obtain ⟨t, hexec, harch, houtputs⟩ := h
  refine ⟨t, hexec, ?_, houtputs⟩
  calc arch t = { arch u with cyc := s.cyc + k } := harch
    _ = { arch u' with cyc := s.cyc + k } := by rw [hu]

/-! ### INC and DEC -/

/-- What INC and DEC make of the byte; `none` for the other mnemonics. -/
def incrementEffect : Mnemonic → Option (Byte → Byte)
  | .INC => some fun m => m + 1
  | .DEC => some fun m => m - 1
  | _ => none

/-- The rows of INC and DEC: none pays a page penalty, and none is in accumulator mode (R88, R90). -/
theorem lookup_of_incrementEffect : ∀ op : Byte, (incrementEffect (lookup op).mnemonic).isSome →
    (lookup op).penalty = false ∧ (lookup op).mode ≠ .accumulator := by decide +kernel

theorem exec_of_incrementEffect {i : Instr} {change : Byte → Byte} (hwf : i.WellFormed)
    (he : incrementEffect i.descriptor.mnemonic = some change) (s : State) :
    exec i s = runModify i.opcode i.operand (fun m _ => change m) (fun m u => setZN (change m) u) s := by
  cases i with
  | incZp | incZpx | incAbs | incAbx | decZp | decZpx | decAbs | decAbx =>
    simp [Instr.descriptor, Instr.opcode, incrementEffect] at he
    subst he
    rfl
  | ill op =>
    rw [descriptor_ill hwf] at he
    cases he
  | _ => simp [Instr.descriptor, Instr.opcode, incrementEffect] at he

/-- INC and DEC replace the byte at the effective address, set Z and N from the new one, move PC past themselves and
charge their base cycles only. -/
theorem completes_of_incrementEffect {i : Instr} {mn : Mnemonic} {change : Byte → Byte} (h : Is i mn)
    (he : incrementEffect mn = some change) (s : State) :
    ∃ ea, address i.operand s = some ea ∧ let r := change (s.mem.read ea)
      Completes i s (withZN r { s with mem := s.mem.write ea r, pc := pcAfter i s }) i.descriptor.cycles := by
  obtain ⟨hwf, rfl⟩ := h
  obtain ⟨hpenalty, hmode⟩ : i.descriptor.penalty = false ∧ i.descriptor.mode ≠ .accumulator :=
    lookup_of_incrementEffect i.opcode (by rw [← Instr.descriptor, he]; rfl)
  have ho : i.operand ≠ .accumulator := fun h => by
    rw [← (Laws.EncodedForm.statement_holds i hwf).1, h] at hmode
    exact hmode rfl
  obtain ⟨t, hexec, -⟩ := exec_completes i s
  have hrun := hexec
  rw [exec_of_incrementEffect hwf he] at hrun
  obtain ⟨m, s₁, s₂, hread, hwrite, rfl⟩ := runModify_next hrun
  obtain ⟨hvalue, bus, rfl⟩ := operandRead_resolve hread
  obtain ⟨hacc, -⟩ | ⟨ea, hmem, rfl⟩ := operandWrite_some hwrite
  · exact absurd (resolve_operand_acc hacc) ho
  have haddr := address_of_resolve hmem
  rw [operandValue_of_address haddr] at hvalue
  obtain rfl := Option.some.inj hvalue
  have hfree (crossed : Bool) : penalty i.descriptor crossed = 0 := by rw [penalty, hpenalty]; rfl
  have hmn : i.descriptor.mnemonic ≠ .ILL := fun h => by rw [h] at he; cases he
  rw [← Instr.descriptor, hfree, pcNext_descriptor hwf, setZN_eq_withZN] at hexec
  refine ⟨ea.toNat, haddr, completes_of_retireAt (u := withZN (change (s.mem.read ea.toNat)) { s with
    mem := s.mem.write ea.toNat (change (s.mem.read ea.toNat)) }) hexec rfl rfl hmn⟩

theorem byte_add_one (m : Byte) : byte (m.toNat + 1) = m + 1 := by
  rw [byte, BitVec.ofNat_add, BitVec.ofNat_toNat, BitVec.setWidth_eq]
  rfl

/-- One less is 255 more modulo 256. -/
theorem byte_add_255 (m : Byte) : byte (m.toNat + 255) = m - 1 := by
  apply BitVec.eq_of_toNat_eq
  rw [BitVec.toNat_ofNat, BitVec.toNat_sub, Nat.add_comm]
  rfl

/-- Settles O26: INC and DEC in the shape of `completes_of_incrementEffect`; the rows are those of the table. -/
theorem memoryIncrements : Obligations.MemoryIncrements := by
  unfold Obligations.MemoryIncrements
  intro i s
  simp only [byte_add_one, byte_add_255]
  exact ⟨fun h => completes_of_incrementEffect h rfl s, fun h => completes_of_incrementEffect h rfl s,
    by decide +kernel, by decide +kernel⟩

/-! ### Instructions that move a byte between registers -/

/-- An instruction of two cycles without an operand that puts a byte in a register and sets Z and N from it. -/
theorem move_completes {i : Instr} {put : Byte → State → State} {r : Byte} {mn : Mnemonic} {s : State}
    (hwf : i.WellFormed) (hexec : exec i s = runImplied i.opcode (fun t => setZN r (put r t)) s)
    (hcyc : (put r s).cyc = s.cyc) (hrow : i.descriptor = ⟨mn, .implied, 2, 1, false⟩) (hmn : mn ≠ .ILL) :
    Completes i s (withZN r { put r s with pc := pcAfter i s }) 2 := by
  have hdone := completes_of_runImplied hwf hexec hcyc hrow hmn
  rwa [setZN_eq_withZN] at hdone

/-- Settles O27: each instruction puts the byte in X or Y in the shape of `move_completes`; the rows are those of the
table. -/
theorem registerIncrements : Obligations.RegisterIncrements := by
  unfold Obligations.RegisterIncrements
  intro s
  simp only [byte_add_one, byte_add_255]
  exact ⟨move_completes (put := fun r t => { t with x := r }) rfl rfl rfl lookup_inx nofun,
    move_completes (put := fun r t => { t with y := r }) rfl rfl rfl lookup_iny nofun,
    move_completes (put := fun r t => { t with x := r }) rfl rfl rfl lookup_dex nofun,
    move_completes (put := fun r t => { t with y := r }) rfl rfl rfl lookup_dey nofun,
    by decide +kernel, by decide +kernel, by decide +kernel, by decide +kernel⟩

/-- Settles O43: each transfer but TXS in the shape of `move_completes`; the rows are those of the table. -/
theorem transferResults : Obligations.TransferResults := by
  unfold Obligations.TransferResults
  intro s
  exact ⟨move_completes (put := fun r t => { t with x := r }) rfl rfl rfl lookup_tsx nofun,
    completes_of_runImplied (effect := fun t => { t with sp := s.x }) rfl rfl rfl lookup_txs nofun,
    move_completes (put := fun r t => { t with x := r }) rfl rfl rfl lookup_tax nofun,
    move_completes (put := fun r t => { t with y := r }) rfl rfl rfl lookup_tay nofun,
    move_completes (put := fun r t => { t with a := r }) rfl rfl rfl lookup_txa nofun,
    move_completes (put := fun r t => { t with a := r }) rfl rfl rfl lookup_tya nofun,
    by decide +kernel, by decide +kernel, by decide +kernel, by decide +kernel, by decide +kernel, by decide +kernel⟩

/-! ### Nine rotates -/

/-- The 9-bit rotation of A and C (R183). -/
def rotateLeft (p : Byte × Bool) : Byte × Bool := (byte (2 * p.1.toNat + num p.2), decide (128 ≤ p.1.toNat))

theorem exec_rolAcc (s : State) :
    ∃ t, exec .rolAcc s = .next t ∧ (t.a, t.c) = rotateLeft (s.a, s.c) ∧ t.mem = s.mem := by
  have his : Is .rolAcc .ROL := ⟨rfl, congrArg Descriptor.mnemonic lookup_rolAcc⟩
  obtain ⟨m, hm, t, hexec, harch, -⟩ := completes_of_shiftEffect his rfl s
  obtain rfl : s.a = m := Option.some.inj hm
  rw [rolResult_eq, bit_seven, stored_of_accumulator rfl] at harch
  have ha : t.a = byte (2 * s.a.toNat + num s.c) := congrArg State.a harch
  have hc : t.c = decide (128 ≤ s.a.toNat) := congrArg State.c harch
  exact ⟨t, hexec, by rw [ha, hc, rotateLeft], (congrArg State.mem harch :)⟩

theorem repeated_rolAcc (k : Nat) (s : State) :
    ∃ t, repeated .rolAcc k s = .next t ∧ (t.a, t.c) = rotateLeft^[k] (s.a, s.c) ∧ t.mem = s.mem := by
  induction k generalizing s with
  | zero => exact ⟨s, rfl, rfl, rfl⟩
  | succ k ih =>
    obtain ⟨t, hexec, hrot, hmem⟩ := exec_rolAcc s
    obtain ⟨u, hrep, hrots, hmems⟩ := ih t
    refine ⟨u, ?_, ?_, hmems.trans hmem⟩
    · simp only [repeated, hexec, hrep]
    · rw [hrots, hrot, Function.iterate_succ_apply]

/-- Over the 512 values of the nine bits. -/
theorem rotateLeft_nine : ∀ (a : Byte) (c : Bool), rotateLeft^[9] (a, c) = (a, c) := by decide +kernel

/-- Settles O31: each ROL rotates the nine bits of A and C by one, and nine rotations of nine bits are none. -/
theorem nineRotatesRestore : Obligations.NineRotatesRestore := by
  unfold Obligations.NineRotatesRestore
  intro s
  obtain ⟨t, hrep, hrots, hmem⟩ := repeated_rolAcc 9 s
  rw [rotateLeft_nine, Prod.mk.injEq] at hrots
  exact ⟨t, hrep, hrots.1, hrots.2, hmem⟩

end Sys2Proof.Machine
end

section
/-! The stack, the status byte, and the instructions that use them (spec/48_stack_transfer_flag.md R241 to R244, R263;
spec/10_state.md R32, R33): pushes, pulls and an interrupt's entry and return as one update of the state each, in the
plain arithmetic of the statements. -/

namespace Sys2Proof.Machine

open Sys2Proof.Claims

/-! ### Bytes and addresses -/

theorem hi_eq_high (w : Word) : hi w = high w := by
  apply BitVec.eq_of_toNat_eq
  have := w.isLt
  rw [hi_toNat, BitVec.toNat_ofNat]
  omega

theorem lo_eq_low (w : Word) : lo w = low w :=
  BitVec.eq_of_toNat_eq ((lo_toNat w).trans (BitVec.toNat_ofNat w.toNat 8).symm)

theorem word_eq_ofNat (h l : Byte) : word h l = BitVec.ofNat 16 (256 * h.toNat + l.toNat) :=
  eq_ofNat_of_toNat (word_toNat h l)

theorem stackAddr_toNat_eq_slot (sp : Byte) : (stackAddr sp).toNat = slot sp := stackAddr_toNat sp

theorem slot_inj {a b : Byte} : slot a = slot b ↔ a = b := by
  rw [slot, slot, ← BitVec.toNat_inj]
  omega

theorem slot_lt (sp : Byte) : slot sp < 65536 := by
  have := sp.isLt
  rw [slot]
  omega

/-! ### The status byte -/

theorem pushedP_eq (b : Bool) (s : State) : pushedP b s = pushedFlags s b.toNat := rfl

theorem setP_eq_withFlags (p : Byte) (s : State) : setP p s = withFlags p s := by
  have hone : bit p 1 = decide (p.toNat / 2 % 2 = 1) := bit_eq p 1
  have htwo : bit p 2 = decide (p.toNat / 4 % 2 = 1) := bit_eq p 2
  have hthree : bit p 3 = decide (p.toNat / 8 % 2 = 1) := bit_eq p 3
  have hsix : bit p 6 = decide (p.toNat / 64 % 2 = 1) := bit_eq p 6
  rw [setP, bit_zero, hone, htwo, hthree, hsix, bit_seven, withFlags]

/-- Settles O46: bits 4 and 5 are none of the six that are read, and each flag is pulled from where it was pushed. -/
theorem pulledStatusByte : Obligations.PulledStatusByte := by
  unfold Obligations.PulledStatusByte
  intro s u p b
  have hmarker (k : Nat) (hk : (0x30#8).getLsbD k = false) : bit (p ^^^ 0x30#8) k = bit p k := by
    rw [bit, bit, BitVec.getLsbD_xor, hk, Bool.xor_false]
  refine ⟨rfl, ?_, ?_⟩
  · simp only [setP, hmarker 0 rfl, hmarker 1 rfl, hmarker 2 rfl, hmarker 3 rfl, hmarker 6 rfl, hmarker 7 rfl]
  · rw [pushedP, setP_flagsByte]
    exact ⟨rfl, rfl⟩

/-! ### Reading back what was pushed -/

theorem pushed_wf {m : Memory} (hm : m.wf) (sp v : Byte) : (pushed m sp v).wf :=
  Memory.wf_write hm (slot_lt sp) v

theorem read_pushed_same {m : Memory} (hm : m.wf) (sp v : Byte) : (pushed m sp v).read (slot sp) = v :=
  Memory.read_write_same hm _ v

theorem read_pushed_other {m : Memory} (hm : m.wf) {sp sp' : Byte} (v : Byte) (h : sp' ≠ sp) :
    (pushed m sp v).read (slot sp') = m.read (slot sp') :=
  Memory.read_write_other hm v (mt slot_inj.mp h)

/-- The two bytes of a pushed address make the address again. -/
theorem join_high_low (w : Word) : 256 * (high w).toNat + (low w).toNat = w.toNat := by
  rw [← hi_eq_high, ← lo_eq_low, hi_toNat, lo_toNat]
  omega

/-! ### The stack operations as updates of the state -/

theorem sp_sub_one_sub_one (sp : Byte) : sp - 1 - 1 = sp - 2 := by
  rw [BitVec.sub_sub]
  rfl

theorem sp_sub_one_thrice (sp : Byte) : sp - 1 - 1 - 1 = sp - 3 := by
  rw [BitVec.sub_sub, BitVec.sub_sub]
  rfl

theorem sp_add_one_add_one (sp : Byte) : sp + 1 + 1 = sp + 2 := BitVec.add_assoc ..

theorem arch_push (v : Byte) (s : State) :
    arch (push v s) = arch { s with mem := pushed s.mem s.sp v, sp := s.sp - 1 } := by
  rw [pushed, ← stackAddr_toNat_eq_slot]
  rfl

theorem arch_push16 (w : Word) (s : State) :
    arch (push16 w s) = arch { s with
      mem := pushed (pushed s.mem s.sp (high w)) (s.sp - 1) (low w), sp := s.sp - 2 } := by
  rw [pushed, pushed, ← stackAddr_toNat_eq_slot, ← stackAddr_toNat_eq_slot, ← hi_eq_high, ← lo_eq_low,
    ← sp_sub_one_sub_one]
  rfl

theorem entryMem_eq (ret : Word) (brk : Bool) (s : State) : entryMem ret brk s = framePushed s ret brk.toNat := by
  rw [entryMem, framePushed, pushed, pushed, pushed, ← stackAddr_toNat_eq_slot, ← stackAddr_toNat_eq_slot,
    ← stackAddr_toNat_eq_slot, ← hi_eq_high, ← lo_eq_low, ← sp_sub_one_sub_one, pushedP_eq]

/-- An interrupt entry up to the bus record, in the words of the statements (R306, R225). -/
theorem arch_enterInterrupt (ret : Word) (brk : Bool) (vec : Word) (s : State) :
    let m := framePushed s ret brk.toNat
    arch (enterInterrupt ret brk vec s) = arch { s with
      mem := m, sp := s.sp - 3, i := true
      pc := BitVec.ofNat 16 (256 * (m.read (vec + 1).toNat).toNat + (m.read vec.toNat).toNat), fsm := .running } := by
  rw [enterInterrupt_eq, entryMem_eq, word_eq_ofNat, sp_sub_one_thrice]
  rfl

/-- A return from an interrupt up to the bus record (R226). -/
theorem returnFromInterrupt_eq_pulled (s : State) :
    (returnFromInterrupt s).1 = BitVec.ofNat 16 (pointer s (slot (s.sp + 2)) (slot (s.sp + 3))) ∧
      arch (returnFromInterrupt s).2 = arch (withFlags (s.mem.read (slot (s.sp + 1))) { s with sp := s.sp + 3 }) := by
  simp only [returnFromInterrupt_eq, stackAddr_toNat_eq_slot, word_eq_ofNat, ← setP_eq_withFlags]
  exact ⟨rfl, rfl⟩

/-! ### The four stack instructions, and the wrap of S -/

/-- Settles O41: each instruction's effect as an update of the state; the rows are those of the table. -/
theorem stackInstructionResults : Obligations.StackInstructionResults := by
  unfold Obligations.StackInstructionResults
  intro s
  refine ⟨?pha, ?pla, ?php, ?plp, by decide +kernel, by decide +kernel, by decide +kernel, by decide +kernel⟩
  case pha =>
    have hdone := completes_of_runImplied (i := .pha) (effect := push s.a) (s := s) rfl rfl rfl lookup_pha nofun
    exact completes_congr hdone (congrArg (fun u => { u with pc := pcAfter .pha s }) (arch_push s.a s))
  case pla =>
    have hdone := completes_of_runImplied (i := .pla) (effect := pullA) (s := s) rfl rfl rfl lookup_pla nofun
    refine completes_congr hdone ?_
    rw [← setZN_eq_withZN, ← stackAddr_toNat_eq_slot]
    rfl
  case php =>
    have hdone := completes_of_runImplied (i := .php) (effect := push (pushedP true s)) (s := s) rfl rfl rfl lookup_php
      nofun
    exact completes_congr hdone (congrArg (fun u => { u with pc := pcAfter .php s }) (arch_push (pushedP true s) s))
  case plp =>
    have hdone := completes_of_runImplied (i := .plp) (effect := pullP) (s := s) rfl rfl rfl lookup_plp nofun
    refine completes_congr hdone ?_
    rw [← setP_eq_withFlags, ← stackAddr_toNat_eq_slot]
    rfl

/-- Settles O42: a slot is 256 plus the byte S, and S moves by one modulo 256. -/
theorem stackWraps : Obligations.StackWraps := by
  unfold Obligations.StackWraps
  intro s v
  have hsp := s.sp.isLt
  have hdown : (s.sp - 1).toNat = (s.sp.toNat + 255) % 256 := by
    rw [BitVec.toNat_sub, Nat.add_comm]
    rfl
  have hup : (s.sp + 1).toNat = (s.sp.toNat + 1) % 256 := BitVec.toNat_add ..
  have hback : s.sp - 1 + 1 = s.sp := BitVec.sub_add_cancel ..
  have haddr := stackAddr_toNat s.sp
  refine ⟨haddr, by omega, by omega, rfl, hdown, hup, ?_, fun hm => ⟨?_, hback⟩⟩
  · rw [pull_fst, stackAddr_toNat, hup]
  · rw [pull_fst, push_sp, push_mem, hback]
    exact Memory.read_write_same hm _ v

end Sys2Proof.Machine
end

section
/-! Control transfers (spec/46_branch.md R200 to R208; spec/47_jump_call.md R220 to R226), the two round trips (R223,
R224, R309), and the undocumented bytes (spec/30_encoding.md R92; spec/48_stack_transfer_flag.md R262). -/

namespace Sys2Proof.Machine

open Sys2Proof.Claims

/-! ### Branches -/

theorem exec_of_branchTaken {i : Instr} {s : State} {taken : Bool} (hwf : i.WellFormed)
    (ht : branchTaken i.descriptor.mnemonic s = some taken) :
    exec i s = runBranch i.opcode i.operand taken s := by
  cases i with
  | bcc | bcs | beq | bne | bmi | bpl | bvc | bvs =>
    simp [Instr.descriptor, Instr.opcode, branchTaken, -Bool.not_eq_eq_eq_not] at ht
    subst ht
    rfl
  | ill op =>
    rw [descriptor_ill hwf] at ht
    cases ht
  | _ => simp [Instr.descriptor, Instr.opcode, branchTaken] at ht

/-- The eight mnemonics that have a branch condition (R201 to R208). -/
theorem mem_of_branchTaken {mn : Mnemonic} {s : State} {taken : Bool} (h : branchTaken mn s = some taken) :
    mn ∈ [.BCC, .BCS, .BEQ, .BNE, .BMI, .BPL, .BVC, .BVS] := by
  cases mn <;> cases h <;> decide

/-- The rows of the branches: relative mode, two cycles, no page penalty of the table's (R88, R90). -/
theorem lookup_of_branch : ∀ op : Byte, (lookup op).mnemonic ∈ [.BCC, .BCS, .BEQ, .BNE, .BMI, .BPL, .BVC, .BVS] →
    (lookup op).mode = .relative ∧ (lookup op).cycles = 2 := by decide +kernel

theorem operand_of_branchTaken {i : Instr} {s : State} {taken : Bool} (hwf : i.WellFormed)
    (ht : branchTaken i.descriptor.mnemonic s = some taken) : ∃ b, i.operand = .relative b := by
  obtain ⟨hmode, -⟩ := lookup_of_branch i.opcode (mem_of_branchTaken ht)
  have hform : i.operand.mode = .relative := (Laws.EncodedForm.statement_holds i hwf).1.trans hmode
  cases ho : i.operand with
  | relative b => exact ⟨b, rfl⟩
  | _ => rw [ho] at hform; cases hform

theorem branch_completes {i : Instr} {s : State} {b : Byte} {taken : Bool} (hwf : i.WellFormed)
    (ht : branchTaken i.descriptor.mnemonic s = some taken) (ho : i.operand = .relative b) :
    Completes i s { s with pc := if taken then BitVec.ofInt 16 (s.pc.toNat + 2 + b.toInt) else pcAfter i s }
      (if taken then (if crosses (.relative b) s then 4 else 3) else 2) := by
  have hcycles : i.descriptor.cycles = 2 := (lookup_of_branch i.opcode (mem_of_branchTaken ht)).2
  have hmn : i.descriptor.mnemonic ≠ .ILL := fun h => by rw [h] at ht; cases ht
  have hexec := exec_of_branchTaken hwf ht
  have hcrossed := resolve_crossed (.relative b) s
  simp only [runBranch, ho, hcrossed] at hexec
  rw [← pcNext_descriptor hwf, ← add_sext16_eq]
  cases taken with
  | false =>
    have hdone := completes_of_retireAt (u := s) (u' := s) hexec rfl rfl hmn
    rw [hcycles] at hdone
    exact hdone
  | true =>
    have hdone := completes_of_retireAt (u := s) (u' := s) hexec rfl rfl hmn
    rw [hcycles] at hdone
    cases hc : crosses (.relative b) s <;> rw [hc] at hdone <;> exact hdone

/-- Settles O33: a branch in the shape of `branch_completes`; the rows are those of the table. -/
theorem branchResults : Obligations.BranchResults := by
  unfold Obligations.BranchResults
  exact ⟨fun _ _ _ _ hwf ht ho => branch_completes hwf ht ho, fun _ _ _ hwf ht => operand_of_branchTaken hwf ht,
    by decide +kernel, by decide +kernel, by decide +kernel, by decide +kernel,
    by decide +kernel, by decide +kernel, by decide +kernel, by decide +kernel⟩

/-! ### Jumps, calls and returns -/

/-- An instruction that assigns PC itself and charges the cycles of its row. -/
theorem transfer_completes {i : Instr} {s u u' : State} {pc : Word} {mn : Mnemonic} {mode : Mode} {cycles len : Nat}
    {pen : Bool} (hrow : i.descriptor = ⟨mn, mode, cycles, len, pen⟩) (hmn : mn ≠ .ILL)
    (hexec : exec i s = .next (retireAt i.descriptor 0 pc u')) (harch : arch u' = arch u) (hcyc : u.cyc = s.cyc) :
    Completes i s { u with pc := pc } cycles := by
  have hdone := completes_of_retireAt hexec harch hcyc (by rwa [hrow])
  rwa [hrow] at hdone

theorem jmpInd_completes (s : State) (w : Word) :
    Completes (.jmpInd w) s { s with
      pc := BitVec.ofNat 16 (pointer s w.toNat (w.toNat / 256 * 256 + (w.toNat + 1) % 256)) } 5 := by
  rw [← eq_ofNat_of_toNat (read16Bug_toNat w s)]
  exact transfer_completes (u := s) lookup_jmpInd nofun rfl (resolve_arch (.indirect w) s) rfl

theorem jsr_completes (s : State) (w : Word) :
    let ret : Word := BitVec.ofNat 16 (s.pc.toNat + 2)
    Completes (.jsr w) s { s with
      mem := pushed (pushed s.mem s.sp (high ret)) (s.sp - 1) (low ret), sp := s.sp - 2, pc := w } 6 := by
  have hret : s.pc + 2 = BitVec.ofNat 16 (s.pc.toNat + 2) := eq_ofNat_of_toNat_mod (BitVec.toNat_add s.pc 2)
  rw [← hret]
  exact transfer_completes (u := { s with
    mem := pushed (pushed s.mem s.sp (high (s.pc + 2))) (s.sp - 1) (low (s.pc + 2)), sp := s.sp - 2 })
    lookup_jsr nofun rfl (arch_push16 (s.pc + 2) s) rfl

theorem rts_completes (s : State) :
    Completes .rts s { s with
      sp := s.sp + 2, pc := BitVec.ofNat 16 (pointer s (slot (s.sp + 1)) (slot (s.sp + 2)) + 1) } 6 := by
  have hpc : (pull16 s).1 + 1 = BitVec.ofNat 16 (pointer s (slot (s.sp + 1)) (slot (s.sp + 2)) + 1) := by
    rw [pull16_fst, stackAddr_toNat_eq_slot, stackAddr_toNat_eq_slot, sp_add_one_add_one, word_eq_ofNat]
    exact (BitVec.ofNat_add _ 1).symm
  have harch : arch (pull16 s).2 = arch { s with sp := s.sp + 2 } := by
    rw [← sp_add_one_add_one]
    rfl
  rw [← hpc]
  exact transfer_completes (i := .rts) lookup_rts nofun rfl harch rfl

theorem brk_completes (s : State) :
    let m := framePushed s (BitVec.ofNat 16 (s.pc.toNat + 2)) 1
    Completes .brk s { s with mem := m, sp := s.sp - 3, i := true, pc := vector m 0xFFFE, fsm := .running } 7 := by
  have hret : s.pc + 2 = BitVec.ofNat 16 (s.pc.toNat + 2) := eq_ofNat_of_toNat_mod (BitVec.toNat_add s.pc 2)
  rw [← hret]
  have harch := arch_enterInterrupt (s.pc + 2) true 0xFFFE s
  have hpc : (enterInterrupt (s.pc + 2) true 0xFFFE s).pc = vector (framePushed s (s.pc + 2) 1) 0xFFFE :=
    (congrArg State.pc harch :)
  intro m
  rw [← hpc]
  exact transfer_completes (i := .brk) lookup_brk nofun rfl harch rfl

theorem rti_completes (s : State) :
    Completes .rti s (withFlags (s.mem.read (slot (s.sp + 1))) { s with
      sp := s.sp + 3, pc := BitVec.ofNat 16 (pointer s (slot (s.sp + 2)) (slot (s.sp + 3))) }) 6 := by
  obtain ⟨hpc, harch⟩ := returnFromInterrupt_eq_pulled s
  rw [← hpc]
  exact transfer_completes (i := .rti) lookup_rti nofun rfl harch rfl

/-- Settles O34: the operand's address, or the indirect pointer's target; the rows are those of the table. -/
theorem jumpResults : Obligations.JumpResults := by
  unfold Obligations.JumpResults
  intro s w
  exact ⟨transfer_completes (u := s) lookup_jmpAbs nofun rfl rfl rfl, jmpInd_completes s w, by decide +kernel⟩

/-- Settles O35: the two pushes, then the operand; the row is that of the table. -/
theorem jsrResult : Obligations.JsrResult := by
  unfold Obligations.JsrResult
  exact fun s w => ⟨jsr_completes s w, by decide +kernel⟩

/-- Settles O36: the two pulls, then one more; the row is that of the table. -/
theorem rtsResult : Obligations.RtsResult := by
  unfold Obligations.RtsResult
  exact fun s => ⟨rts_completes s, by decide +kernel⟩

/-- Settles O37: BRK is the interrupt entry at PC plus 2 with the Break marker set; the row is that of the table. -/
theorem brkResult : Obligations.BrkResult := by
  unfold Obligations.BrkResult
  exact fun s => ⟨brk_completes s, by decide +kernel⟩

/-- Settles O38: the flags, then PC, are pulled; the row is that of the table. -/
theorem rtiResult : Obligations.RtiResult := by
  unfold Obligations.RtiResult
  exact fun s => ⟨rti_completes s, by decide +kernel⟩

end Sys2Proof.Machine
end

section
/-! The two round trips over the stack (spec/47_jump_call.md R223, R224; spec/60_exceptions.md R309), the interrupt
entries as updates of the state (R306), and the undocumented bytes (spec/30_encoding.md R92;
spec/48_stack_transfer_flag.md R262). -/

namespace Sys2Proof.Machine

open Sys2Proof.Claims

/-! ### Reading back a pushed address and a pushed frame -/

theorem read_pushedAddress {m : Memory} (hm : m.wf) (sp : Byte) (w : Word) :
    let m' := pushed (pushed m sp (high w)) (sp - 1) (low w)
    m'.read (slot sp) = high w ∧ m'.read (slot (sp - 1)) = low w := by
  have hne : sp ≠ sp - 1 := by bv_omega
  exact ⟨by rw [read_pushed_other (pushed_wf hm _ _) _ hne, read_pushed_same hm],
    read_pushed_same (pushed_wf hm _ _) _ _⟩

theorem read_framePushed {s : State} (hm : s.mem.wf) (ret : Word) (b : Nat) :
    let m := framePushed s ret b
    m.read (slot s.sp) = high ret ∧ m.read (slot (s.sp - 1)) = low ret ∧
      m.read (slot (s.sp - 2)) = pushedFlags s b := by
  have hm' := pushed_wf (pushed_wf hm s.sp (high ret)) (s.sp - 1) (low ret)
  obtain ⟨hhigh, hlow⟩ := read_pushedAddress hm s.sp ret
  have hne : s.sp ≠ s.sp - 2 := by bv_omega
  have hne' : s.sp - 1 ≠ s.sp - 2 := by bv_omega
  exact ⟨by rw [framePushed, read_pushed_other hm' _ hne, hhigh],
    by rw [framePushed, read_pushed_other hm' _ hne', hlow], read_pushed_same hm' _ _⟩

/-- The pointer at two slots that hold the bytes of an address is the address. -/
theorem pointer_of_read {t : State} {l h : Nat} {w : Word} (hl : t.mem.read l = low w) (hh : t.mem.read h = high w) :
    pointer t l h = w.toNat := by
  rw [pointer, hl, hh, join_high_low]

/-! ### JSR and RTS -/

/-- Settles O39: RTS pulls the two bytes JSR pushed. -/
theorem subroutineRoundTrip : Obligations.SubroutineRoundTrip := by
  unfold Obligations.SubroutineRoundTrip
  intro s w hm
  obtain ⟨t, hjsr, harch, -⟩ := jsr_completes s w
  obtain ⟨u, hrts, harch', -⟩ := rts_completes t
  generalize hret : (BitVec.ofNat 16 (s.pc.toNat + 2) : Word) = ret at harch
  have hmem : t.mem = pushed (pushed s.mem s.sp (high ret)) (s.sp - 1) (low ret) := (congrArg State.mem harch :)
  have hsp : t.sp = s.sp - 2 := (congrArg State.sp harch :)
  have hup : t.sp + 1 = s.sp - 1 := by bv_omega
  have hupup : t.sp + 2 = s.sp := by bv_omega
  obtain ⟨hhigh, hlow⟩ := read_pushedAddress hm s.sp ret
  rw [← hmem] at hhigh hlow
  rw [hup, hupup, pointer_of_read hlow hhigh] at harch'
  have hpc : u.pc = BitVec.ofNat 16 (ret.toNat + 1) := (congrArg State.pc harch' :)
  refine ⟨t, u, hjsr, hrts, (congrArg State.pc harch :), ?_, (congrArg State.sp harch' :)⟩
  rw [hpc, BitVec.ofNat_add, BitVec.ofNat_toNat, BitVec.setWidth_eq, ← hret, ← BitVec.ofNat_add]

/-! ### Entry and RTI -/

theorem arch_interruptEntry_nmi (s : State) :
    let m := framePushed s s.pc 0
    arch (interruptEntry .nmi s) = arch { s with
      mem := m, sp := s.sp - 3, i := true, nmiPend := false, pc := vector m 0xFFFA, fsm := .running
      cyc := s.cyc + 7 } :=
  congrArg (fun u => { u with cyc := u.cyc + 7 }) (arch_enterInterrupt s.pc false 0xFFFA { s with nmiPend := false })

theorem arch_interruptEntry_irq (s : State) :
    let m := framePushed s s.pc 0
    arch (interruptEntry .irq s) = arch { s with
      mem := m, sp := s.sp - 3, i := true, irqPend := false, pc := vector m 0xFFFE, fsm := .running
      cyc := s.cyc + 7 } :=
  congrArg (fun u => { u with cyc := u.cyc + 7 }) (arch_enterInterrupt s.pc false 0xFFFE { s with irqPend := false })

/-- From a state `t` with the frame of `s` on top of the stack, RTI resumes at the pushed address with the pushed flags
(R309). -/
theorem rti_restores {s t : State} {ret : Word} {b : Bool} (hm : s.mem.wf)
    (hmem : t.mem = framePushed s ret b.toNat) (hsp : t.sp = s.sp - 3) (haxy : (t.a, t.x, t.y) = (s.a, s.x, s.y)) :
    ∃ u, exec .rti t = .next u ∧ u.pc = ret ∧ u.sp = s.sp ∧
      (u.c, u.z, u.i, u.d, u.v, u.n) = (s.c, s.z, s.i, s.d, s.v, s.n) ∧ (u.a, u.x, u.y) = (s.a, s.x, s.y) := by
  obtain ⟨u, hexec, harch, -⟩ := rti_completes t
  obtain ⟨hhigh, hlow, hflags⟩ := read_framePushed hm ret b.toNat
  have hup1 : t.sp + 1 = s.sp - 2 := by bv_omega
  have hup2 : t.sp + 2 = s.sp - 1 := by bv_omega
  have hup3 : t.sp + 3 = s.sp := by bv_omega
  rw [← hmem] at hhigh hlow hflags
  rw [hup1, hup2, hup3, hflags, pointer_of_read hlow hhigh, BitVec.ofNat_toNat, BitVec.setWidth_eq, ← pushedP_eq,
    ← setP_eq_withFlags, pushedP, setP_flagsByte] at harch
  refine ⟨u, hexec, (congrArg State.pc harch :), (congrArg State.sp harch :), ?_, ?_⟩
  · exact (congrArg (fun r => (r.c, r.z, r.i, r.d, r.v, r.n)) harch :)
  · exact (congrArg (fun r => (r.a, r.x, r.y)) harch :).trans haxy

/-- Settles O40: each entry leaves the frame that RTI pulls. -/
theorem interruptRoundTrip : Obligations.InterruptRoundTrip := by
  unfold Obligations.InterruptRoundTrip
  intro s hm restores
  refine ⟨?nmi, ?irq, ?brk⟩
  case nmi =>
    have harch := arch_interruptEntry_nmi s
    exact rti_restores (b := false) hm (congrArg State.mem harch :) (congrArg State.sp harch :)
      (congrArg (fun r => (r.a, r.x, r.y)) harch :)
  case irq =>
    have harch := arch_interruptEntry_irq s
    exact rti_restores (b := false) hm (congrArg State.mem harch :) (congrArg State.sp harch :)
      (congrArg (fun r => (r.a, r.x, r.y)) harch :)
  case brk =>
    obtain ⟨t, hexec, harch, -⟩ := brk_completes s
    exact ⟨t, hexec, rti_restores (b := true) hm (congrArg State.mem harch :) (congrArg State.sp harch :)
      (congrArg (fun r => (r.a, r.x, r.y)) harch :)⟩

/-! ### The undocumented bytes -/

theorem wellFormed_ill {op : Byte} (h : op ∈ undocumentedOpcodes) : (Instr.ill op).WellFormed :=
  List.contains_iff_mem.mpr h

/-- An undocumented byte moves PC past itself and takes its two cycles (R262). -/
theorem exec_ill (op : Byte) (s : State) :
    exec (.ill op) s = .next (retireAt ⟨.ILL, .implied, 2, 1, false⟩ 0 (s.pc + 1) s) := rfl

/-- Settles O45: the bytes listed are those the table gives the shared row, and that row's instruction retires at
once. -/
theorem illegalOpcodeResult : Obligations.IllegalOpcodeResult := by
  unfold Obligations.IllegalOpcodeResult
  refine ⟨by decide +kernel, by decide +kernel, by decide +kernel, by decide +kernel, fun op s h => ⟨?_, ?_⟩⟩
  · exact decodeInvertsEncode (.ill op) [] (wellFormed_ill h)
  · have hpc : s.pc + 1 = BitVec.ofNat 16 (s.pc.toNat + 1) := eq_ofNat_of_toNat_mod (BitVec.toNat_add s.pc 1)
    exact ⟨_, exec_ill op s, rfl, rfl, by rw [← hpc]; rfl⟩

end Sys2Proof.Machine
end

section
/-! Steps that execute no instruction (spec/49_step_fsm.md R280, R287; spec/60_exceptions.md R303 to R306), the state at
power-up (spec/10_state.md R42), and the host's operations (spec/49_step_fsm.md R289). -/

namespace Sys2Proof.Machine

open Sys2Proof.Claims Sys2Proof.Safety

/-! ### What a step is, by the state it begins in -/

theorem step_of_reset {s : State} (h : s.fsm = .reset) : step s = .next (resetSequence (clearOutputs s)) := by
  simp [step, controlStep, h]

theorem step_of_halted {s : State} (h : s.fsm = .halted) : step s = .next (clearOutputs s) := by
  simp [step, controlStep, h]

theorem step_of_servicing {s : State} (h : s.fsm = .servicingInterrupt) : step s = .fault .servicingAtBoundary := by
  simp [step, controlStep, h]

theorem step_of_nmi {s : State} (h : s.fsm = .running) (hnmi : s.nmiPend = true) :
    step s = .next (interruptEntry .nmi (clearOutputs s)) := by
  simp [step, controlStep, runningStep, h, hnmi]

theorem step_of_irq {s : State} (h : s.fsm = .running) (hnmi : s.nmiPend = false) (hirq : s.irqPend = true)
    (hi : s.i = false) : step s = .next (interruptEntry .irq (clearOutputs s)) := by
  simp [step, controlStep, runningStep, h, hnmi, hirq, hi]

/-! ### Which steps go on -/

/-- A running step enters an interrupt or executes an instruction, and both go on. -/
theorem proceeds_of_running {s : State} (h : s.fsm = .running) : Proceeds s := by
  by_cases hx : Executes s
  · obtain ⟨t, hexec, -⟩ := exec_completes (fetch s).1 (fetched (fetch s).1 s)
    exact ⟨t, (step_of_executes hx).trans hexec⟩
  · cases hnmi : s.nmiPend with
    | true => exact ⟨_, step_of_nmi h hnmi⟩
    | false =>
      simp only [Executes, h, hnmi, true_and, not_or, Bool.not_eq_false, Bool.not_eq_true] at hx
      exact ⟨_, step_of_irq h hnmi hx.1 hx.2⟩

theorem proceeds_of_boundary {s : State} (h : s.fsm ≠ .servicingInterrupt) : Proceeds s := by
  cases hf : s.fsm with
  | reset => exact ⟨_, step_of_reset hf⟩
  | halted => exact ⟨_, step_of_halted hf⟩
  | running => exact proceeds_of_running hf
  | servicingInterrupt => exact absurd hf h

/-- Settles O9, by the state of FSM. -/
theorem stepStopsOnlyInServicing : Obligations.StepStopsOnlyInServicing := by
  unfold Obligations.StepStopsOnlyInServicing
  exact fun s => ⟨proceeds_of_boundary, step_of_servicing⟩

/-! ### Power-up, reset, Halted, and the interrupt entries -/

/-- Settles O53: the fields of `State.reset`. -/
theorem powerUpState : Obligations.PowerUpState := by
  unfold Obligations.PowerUpState
  exact ⟨rfl, rfl, rfl, rfl, rfl, rfl⟩

/-- Settles O10: no cell is listed, and FSM is Reset. -/
theorem boundaryInvariantAtPowerUp : Obligations.BoundaryInvariantAtPowerUp := by
  unfold Obligations.BoundaryInvariantAtPowerUp
  exact ⟨Memory.wf_nil, nofun⟩

/-- Settles O54: the reset sequence as one update of the state. -/
theorem resetSequenceStep : Obligations.ResetSequenceStep := by
  unfold Obligations.ResetSequenceStep
  intro s h
  refine ⟨_, step_of_reset h, ?_⟩
  rw [resetSequence_eq, word_eq_ofNat]
  exact ⟨rfl, rfl, rfl, rfl⟩

/-- Settles O56: a step in Halted clears the outputs. -/
theorem haltedStepDoesNothing : Obligations.HaltedStepDoesNothing := by
  unfold Obligations.HaltedStepDoesNothing
  exact fun s h => ⟨clearOutputs s, step_of_halted h, rfl, rfl, rfl, rfl⟩

theorem interruptEntry_illegalOp (kind : InterruptKind) (s : State) :
    (interruptEntry kind s).illegalOp = s.illegalOp :=
  (interruptEntry_outputs kind s).1

/-- Settles O55: each entry as one update of the state. -/
theorem interruptEntrySteps : Obligations.InterruptEntrySteps := by
  unfold Obligations.InterruptEntrySteps
  intro s hrun m
  refine ⟨fun hnmi => ⟨_, step_of_nmi hrun hnmi, rfl, interruptEntry_illegalOp .nmi _, ?_⟩,
    fun hnmi hirq hi => ⟨_, step_of_irq hrun hnmi hirq hi, rfl, interruptEntry_illegalOp .irq _, ?_⟩⟩
  · rw [arch_interruptEntry_nmi, ← hrun]
    rfl
  · rw [arch_interruptEntry_irq, ← hrun]
    rfl

/-! ### The host's operations -/

/-- Settles O59: each operation by its definition, and the status byte with its Break marker clear. -/
theorem hostOperations : Obligations.HostOperations := by
  unfold Obligations.HostOperations
  exact fun s a b => ⟨rfl, rfl, rfl, rfl, rfl, rfl⟩

end Sys2Proof.Machine
end

section
/-! The shape of every instruction's execution, by its mnemonic (spec/49_step_fsm.md R283), and what each shape leaves
unchanged (spec/10_state.md R34). -/

namespace Sys2Proof.Machine

open Sys2Proof.Claims

/-! ### The shapes -/

/-- The result and the flags of each mnemonic that reads and writes its operand; `none` for the others. -/
def modifyEffect : Mnemonic → Option ((Byte → State → Byte) × (Byte → State → State))
  | .ASL => some (aslResult, aslFlags)
  | .LSR => some (lsrResult, lsrFlags)
  | .ROL => some (rolResult, rolFlags)
  | .ROR => some (rorResult, rorFlags)
  | .INC => some (incResult, incFlags)
  | .DEC => some (decResult, decFlags)
  | _ => none

/-- What each mnemonic without an operand does before PC moves on; `none` for the others and for the transfers. -/
def impliedEffect : Mnemonic → Option (State → State)
  | .INX => some fun s => putX (s.x + 1) s
  | .INY => some fun s => putY (s.y + 1) s
  | .DEX => some fun s => putX (s.x - 1) s
  | .DEY => some fun s => putY (s.y - 1) s
  | .PHA => some fun s => push s.a s
  | .PLA => some pullA
  | .PHP => some fun s => push (pushedP true s) s
  | .PLP => some pullP
  | .TSX => some fun s => setZN s.sp { s with x := s.sp }
  | .TXS => some fun s => { s with sp := s.x }
  | .TAX => some fun s => setZN s.a { s with x := s.a }
  | .TAY => some fun s => setZN s.a { s with y := s.a }
  | .TXA => some fun s => setZN s.x { s with a := s.x }
  | .TYA => some fun s => setZN s.y { s with a := s.y }
  | .CLC => some fun s => { s with c := false }
  | .SEC => some fun s => { s with c := true }
  | .CLI => some fun s => { s with i := false }
  | .SEI => some fun s => { s with i := true }
  | .CLD => some fun s => { s with d := false }
  | .SED => some fun s => { s with d := true }
  | .CLV => some fun s => { s with v := false }
  | .NOP => some id
  | _ => none

/-- The shape of an instruction's execution: one of the shared shapes with the effect its mnemonic has, or one of the
control transfers and the undocumented bytes, which stand for themselves. -/
inductive Shape (i : Instr) : Prop
  | read {effect : Byte → State → State} (he : readEffect i.descriptor.mnemonic = some effect)
      (hexec : ∀ s, exec i s = runRead i.opcode i.operand effect s)
  | write {reg : State → Byte} (hr : storedRegister i.descriptor.mnemonic = some reg)
      (hexec : ∀ s, exec i s = runWrite i.opcode i.operand (reg s) s)
  | modify {result : Byte → State → Byte} {flags : Byte → State → State}
      (he : modifyEffect i.descriptor.mnemonic = some (result, flags))
      (hexec : ∀ s, exec i s = runModify i.opcode i.operand result flags s)
  | implied {effect : State → State} (he : impliedEffect i.descriptor.mnemonic = some effect)
      (ho : i.operand = .implied) (hexec : ∀ s, exec i s = retire i.descriptor false s (effect s))
  | branch {taken : State → Bool} (ht : ∀ s, branchTaken i.descriptor.mnemonic s = some (taken s))
      (hexec : ∀ s, exec i s = runBranch i.opcode i.operand (taken s) s)
  | jump (hmn : i.descriptor.mnemonic = .JMP) (hexec : ∀ s, exec i s = runJump i.opcode i.operand id s)
  | jsr (w : Word) (hi : i = .jsr w)
  | rts (hi : i = .rts)
  | brk (hi : i = .brk)
  | rti (hi : i = .rti)
  | ill (op : Byte) (hi : i = .ill op)

/-- Every instruction has a shape: the cases are grouped by it. -/
theorem exec_shape (i : Instr) : Shape i := by
  cases i with
  | ldaImm | ldaZp | ldaZpx | ldaAbs | ldaAbx | ldaAby | ldaIzx | ldaIzy | ldxImm | ldxZp | ldxZpy | ldxAbs | ldxAby
  | ldyImm | ldyZp | ldyZpx | ldyAbs | ldyAbx | adcImm | adcZp | adcZpx | adcAbs | adcAbx | adcAby | adcIzx | adcIzy
  | sbcImm | sbcZp | sbcZpx | sbcAbs | sbcAbx | sbcAby | sbcIzx | sbcIzy | andImm | andZp | andZpx | andAbs | andAbx
  | andAby | andIzx | andIzy | oraImm | oraZp | oraZpx | oraAbs | oraAbx | oraAby | oraIzx | oraIzy | eorImm | eorZp
  | eorZpx | eorAbs | eorAbx | eorAby | eorIzx | eorIzy | bitZp | bitAbs | cmpImm | cmpZp | cmpZpx | cmpAbs | cmpAbx
  | cmpAby | cmpIzx | cmpIzy | cpxImm | cpxZp | cpxAbs | cpyImm | cpyZp | cpyAbs =>
    exact .read (by simp [Instr.descriptor, Instr.opcode, readEffect]) fun _ => rfl
  | staZp | staZpx | staAbs | staAbx | staAby | staIzx | staIzy | stxZp | stxZpy | stxAbs | styZp | styZpx | styAbs =>
    exact .write (by simp [Instr.descriptor, Instr.opcode, storedRegister]) fun _ => rfl
  | incZp | incZpx | incAbs | incAbx | decZp | decZpx | decAbs | decAbx | aslAcc | aslZp | aslZpx | aslAbs | aslAbx
  | lsrAcc | lsrZp | lsrZpx | lsrAbs | lsrAbx | rolAcc | rolZp | rolZpx | rolAbs | rolAbx | rorAcc | rorZp | rorZpx
  | rorAbs | rorAbx =>
    exact .modify (by simp [Instr.descriptor, Instr.opcode, modifyEffect]) fun _ => rfl
  | inx | iny | dex | dey | pha | pla | php | plp | tsx | txs | tax | tay | txa | tya | clc | sec | cli | sei | cld
  | sed | clv | nop =>
    exact .implied (by simp [Instr.descriptor, Instr.opcode, impliedEffect]) rfl fun _ => rfl
  | bcc | bcs | beq | bne | bmi | bpl | bvc | bvs =>
    exact .branch (by simp [Instr.descriptor, Instr.opcode, branchTaken]) fun _ => rfl
  | jmpAbs | jmpInd => exact .jump (by simp [Instr.descriptor, Instr.opcode]) fun _ => rfl
  | jsr w => exact .jsr w rfl
  | rts => exact .rts rfl
  | brk => exact .brk rfl
  | rti => exact .rti rfl
  | ill op => exact .ill op rfl

/-! ### The mnemonics of the instructions that stand for themselves -/

@[simp] theorem mnemonic_jsr (w : Word) : (Instr.jsr w).descriptor.mnemonic = .JSR :=
  congrArg Descriptor.mnemonic lookup_jsr

@[simp] theorem mnemonic_rts : Instr.rts.descriptor.mnemonic = .RTS := congrArg Descriptor.mnemonic lookup_rts

@[simp] theorem mnemonic_brk : Instr.brk.descriptor.mnemonic = .BRK := congrArg Descriptor.mnemonic lookup_brk

@[simp] theorem mnemonic_rti : Instr.rti.descriptor.mnemonic = .RTI := congrArg Descriptor.mnemonic lookup_rti

end Sys2Proof.Machine
end

section
/-! What each shape of an instruction leaves unchanged: the registers, flags, FSM and latches of the write columns
(spec/10_state.md R34, R38; spec/49_step_fsm.md R282). -/

namespace Sys2Proof.Machine

open Sys2Proof.Claims

/-- What an instruction of mnemonic `mn` with operand `o` leaves as it was, from `s` to `t`: the registers and flags
that the table of R34 does not list it for, FSM if Running, and the latches. -/
structure Keeps (mn : Mnemonic) (o : Operand) (s t : State) : Prop where
  a : mn ∉ writersOfA ∨ (mn ∈ [.ASL, .LSR, .ROL, .ROR] ∧ o ≠ .accumulator) → t.a = s.a
  x : mn ∉ writersOfX → t.x = s.x
  y : mn ∉ writersOfY → t.y = s.y
  sp : mn ∉ writersOfS → t.sp = s.sp
  c : mn ∉ writersOfC → t.c = s.c
  zn : mn ∉ writersOfZN → t.z = s.z ∧ t.n = s.n
  i : mn ∉ writersOfI → t.i = s.i
  d : mn ∉ writersOfD → t.d = s.d
  v : mn ∉ writersOfV → t.v = s.v
  fsm : s.fsm = .running → t.fsm = .running
  nmiPend : t.nmiPend = s.nmiPend
  irqPend : t.irqPend = s.irqPend

section
variable {mn : Mnemonic} {o : Operand} {s : State}

/-- Retiring writes none of the fields that `Keeps` speaks of. -/
theorem keeps_retireAt {u : State} (h : Keeps mn o s u) (d : Descriptor) (k : Nat) (pc : Word) :
    Keeps mn o s (retireAt d k pc u) :=
  ⟨h.a, h.x, h.y, h.sp, h.c, h.zn, h.i, h.d, h.v, h.fsm, h.nmiPend, h.irqPend⟩

/-- An update of memory and the bus record keeps everything. -/
theorem keeps_of_mem_bus (mem : Memory) (bus : List BusAccess) : Keeps mn o s { s with mem := mem, bus := bus } :=
  ⟨fun _ => rfl, fun _ => rfl, fun _ => rfl, fun _ => rfl, fun _ => rfl, fun _ => ⟨rfl, rfl⟩, fun _ => rfl,
    fun _ => rfl, fun _ => rfl, id, rfl, rfl⟩

/-! ### The effects of each shape, by mnemonic -/

theorem readEffect_keeps {effect : Byte → State → State} (he : readEffect mn = some effect) (m : Byte)
    (bus : List BusAccess) : Keeps mn o s (effect m { s with bus := bus }) := by
  cases mn <;> cases he <;> constructor <;>
    simp [writersOfA, writersOfX, writersOfY, writersOfS, writersOfC, writersOfZN, writersOfI, writersOfD, writersOfV,
      loadA, loadX, loadY, addToA, subFromA, andA, oraA, eorA, logicResult, bitTest, compareA, compareX, compareY,
      compareFlags]

theorem modifyEffect_keeps {result : Byte → State → Byte} {flags : Byte → State → State}
    (he : modifyEffect mn = some (result, flags)) (m : Byte) (mem : Memory) (bus bus' : List BusAccess) :
    Keeps mn o s { flags m { s with bus := bus } with mem := mem, bus := bus' } := by
  cases mn <;> cases he <;> constructor <;>
    simp [writersOfX, writersOfY, writersOfS, writersOfC, writersOfZN, writersOfI, writersOfD, writersOfV,
      aslFlags, lsrFlags, rolFlags, rorFlags, incFlags, decFlags]

/-- In accumulator mode, which the shifts and rotates have, A is written too. -/
theorem modifyEffect_keeps_accumulator {result : Byte → State → Byte} {flags : Byte → State → State}
    (he : modifyEffect mn = some (result, flags)) (hmn : mn ∈ [.ASL, .LSR, .ROL, .ROR]) (a m : Byte)
    (bus : List BusAccess) : Keeps mn .accumulator s { flags m { s with bus := bus } with a := a } := by
  have hkeeps := modifyEffect_keeps (o := .accumulator) (s := s) he m s.mem bus bus
  refine ⟨fun h => ?_, hkeeps.x, hkeeps.y, hkeeps.sp, hkeeps.c, hkeeps.zn, hkeeps.i, hkeeps.d, hkeeps.v, hkeeps.fsm,
    hkeeps.nmiPend, hkeeps.irqPend⟩
  have hlisted : mn ∈ writersOfA := by
    simp only [List.mem_cons, List.not_mem_nil, or_false] at hmn
    rcases hmn with rfl | rfl | rfl | rfl <;> decide
  rcases h with h | ⟨-, h⟩
  · exact absurd hlisted h
  · exact absurd rfl h

theorem impliedEffect_keeps {effect : State → State} (he : impliedEffect mn = some effect) :
    Keeps mn o s (effect s) := by
  cases mn <;> cases he <;> constructor <;>
    simp [writersOfA, writersOfX, writersOfY, writersOfS, writersOfC, writersOfZN, writersOfI, writersOfD, writersOfV,
      putX, putY, pullA, pullP]

/-! ### The instructions -/

/-- The rows in accumulator mode are those of the shifts and rotates (R90). -/
theorem lookup_of_accumulator : ∀ op : Byte, (lookup op).mode = .accumulator →
    (lookup op).mnemonic ∈ [.ASL, .LSR, .ROL, .ROR] := by decide +kernel

theorem mnemonic_of_accumulator {i : Instr} (hwf : i.WellFormed) (ho : i.operand = .accumulator) :
    i.descriptor.mnemonic ∈ [.ASL, .LSR, .ROL, .ROR] := by
  refine lookup_of_accumulator i.opcode ?_
  rw [← Instr.descriptor, ← (Laws.EncodedForm.statement_holds i hwf).1, ho]
  rfl

theorem not_shift_of_storedRegister {reg : State → Byte} (hr : storedRegister mn = some reg) :
    mn ∉ [.ASL, .LSR, .ROL, .ROR] := by
  cases mn <;> cases hr <;> decide

theorem exec_keeps {i : Instr} {t : State} (hwf : i.WellFormed) (h : exec i s = .next t) :
    Keeps i.descriptor.mnemonic i.operand s t := by
  cases exec_shape i with
  | read he hexec =>
    rw [hexec] at h
    obtain ⟨m, bus, pc, k, rfl⟩ := runRead_frame h
    exact keeps_retireAt (readEffect_keeps he m bus) _ _ _
  | write hr hexec =>
    rw [hexec] at h
    have ho : i.operand ≠ .accumulator := mt (mnemonic_of_accumulator hwf) (not_shift_of_storedRegister hr)
    obtain ⟨mem, bus, pc, k, rfl⟩ := runWrite_frame h ho
    exact keeps_retireAt (keeps_of_mem_bus mem bus) _ _ _
  | modify he hexec =>
    rw [hexec] at h
    by_cases ho : i.operand = .accumulator
    · have hmn := mnemonic_of_accumulator hwf ho
      rw [ho] at h ⊢
      obtain ⟨a, m, bus, pc, k, rfl⟩ := runModify_accumulator_frame h
      exact keeps_retireAt (modifyEffect_keeps_accumulator he hmn a m bus) _ _ _
    · obtain ⟨m, mem, bus, bus', pc, k, rfl⟩ := runModify_frame h ho
      exact keeps_retireAt (modifyEffect_keeps he m mem bus bus') _ _ _
  | implied he ho hexec =>
    rw [hexec] at h
    cases h
    exact keeps_retireAt (impliedEffect_keeps he) _ _ _
  | branch ht hexec =>
    rw [hexec] at h
    obtain ⟨bus, pc, k, rfl⟩ := runBranch_frame h
    exact keeps_retireAt (keeps_of_mem_bus s.mem bus) _ _ _
  | jump hmn hexec =>
    rw [hexec] at h
    obtain ⟨bus, pc, k, rfl⟩ := runJump_frame h
    exact keeps_retireAt (keeps_of_mem_bus s.mem bus) _ _ _
  | jsr w hi =>
    subst hi
    cases h
    refine keeps_retireAt ?_ _ _ _
    constructor <;> simp [Instr.descriptor, Instr.opcode, resolve, writersOfS]
  | rts hi =>
    subst hi
    cases h
    refine keeps_retireAt ?_ _ _ _
    constructor <;> simp [Instr.descriptor, Instr.opcode, writersOfS]
  | brk hi =>
    subst hi
    cases h
    refine keeps_retireAt ?_ _ _ _
    rw [enterInterrupt_eq]
    constructor <;> simp [Instr.descriptor, Instr.opcode, writersOfS, writersOfI]
  | rti hi =>
    subst hi
    cases h
    refine keeps_retireAt ?_ _ _ _
    rw [returnFromInterrupt_eq]
    constructor <;> simp [Instr.descriptor, Instr.opcode, writersOfS, writersOfC, writersOfZN, writersOfI, writersOfD,
      writersOfV]
  | ill op hi =>
    subst hi
    cases h
    exact keeps_retireAt (keeps_of_mem_bus s.mem s.bus) _ _ _

end

/-- Settles O47: the clauses of `Keeps` on registers and flags. -/
theorem onlyListedInstructionsWriteRegisters : Obligations.OnlyListedInstructionsWriteRegisters := by
  unfold Obligations.OnlyListedInstructionsWriteRegisters
  intro i s t hwf h
  obtain ⟨ha, hx, hy, hsp, hc, hzn, hi, hd, hv, -⟩ := exec_keeps hwf h
  exact ⟨ha, hx, hy, hsp, hc, hzn, hi, hd, hv⟩

/-! ### FSM and the latches over a step -/

/-- An instruction that a step executes keeps what `Keeps` says, from the state in which only the fetch has happened. -/
theorem keeps_of_executed {s t : State} (h : exec (fetch (clearOutputs s)).1 (fetch (clearOutputs s)).2 = .next t) :
    ∃ mn o, Keeps mn o (fetched (fetch s).1 s) t := by
  rw [fetch_clearOutputs_fst, fetch_clearOutputs_snd] at h
  exact ⟨_, _, exec_keeps (fetch_makes s).2 h⟩

/-- Settles O57, by the kind of step. -/
theorem fsmTransitions : Obligations.FsmTransitions := by
  unfold Obligations.FsmTransitions
  refine ⟨fun s t h => ?_, rfl, fun s => ⟨rfl, rfl⟩⟩
  rcases step_next h with ⟨hf, rfl⟩ | ⟨hf, rfl⟩ | ⟨hf, -, rfl⟩ | ⟨hf, -, -, -, rfl⟩ | ⟨hf, -, -, hexec⟩
  · rw [hf, if_neg nofun]
    rfl
  · rw [if_pos hf]
    exact hf
  · rw [hf, if_neg nofun]
    rfl
  · rw [hf, if_neg nofun]
    rfl
  · obtain ⟨mn, o, hkeeps⟩ := keeps_of_executed hexec
    rw [hf, if_neg nofun]
    exact hkeeps.fsm hf

/-- Settles O58, by the kind of step. -/
theorem requestLatches : Obligations.RequestLatches := by
  unfold Obligations.RequestLatches
  intro s t h
  rcases step_next h with ⟨hf, rfl⟩ | ⟨hf, rfl⟩ | ⟨hf, hnmi, rfl⟩ | ⟨hf, hnmi, hirq, hi, rfl⟩ | ⟨hf, hnmi, hirq, hexec⟩
  · simp [resetSequence_eq, hf]
  · simp [hf]
  · simp [interruptEntry_nmi, enterInterrupt_eq, hf, hnmi]
  · simp [interruptEntry_irq, enterInterrupt_eq, hf, hnmi, hi]
  · obtain ⟨mn, o, hkeeps⟩ := keeps_of_executed hexec
    rw [hkeeps.nmiPend, hkeeps.irqPend]
    rcases hirq with hirq | hirq <;> simp [fetched, hf, hnmi, hirq]

end Sys2Proof.Machine
end

section
/-! How an instruction changes memory (spec/20_memory.md R58; spec/10_state.md R34): not at all, in one byte at the
resolved address, or in the slots it pushes to. -/

namespace Sys2Proof.Machine

open Sys2Proof.Claims

/-! ### Several pushes -/

/-- Memory after the bytes are pushed one after the other, the first with the stack pointer at `sp`. -/
def pushedAll (m : Memory) (sp : Byte) : List Byte → Memory
  | [] => m
  | v :: vs => pushedAll (pushed m sp v) (sp - 1) vs

theorem pushedAll_wf {m : Memory} (hm : m.wf) (sp : Byte) (vs : List Byte) : (pushedAll m sp vs).wf := by
  induction vs generalizing m sp with
  | nil => exact hm
  | cons v vs ih => exact ih (pushed_wf hm sp v) (sp - 1)

theorem read_pushedAll_other {m : Memory} (hm : m.wf) {sp : Byte} {vs : List Byte} {a : Nat}
    (h : ∀ k < vs.length, a ≠ slot (sp - byte k)) : (pushedAll m sp vs).read a = m.read a := by
  induction vs generalizing m sp with
  | nil => rfl
  | cons v vs ih =>
    have hfirst : a ≠ slot sp := by simpa using h 0 (Nat.succ_pos _)
    have hrest : ∀ k < vs.length, a ≠ slot (sp - 1 - byte k) := fun k hk => by
      have hnext : sp - 1 - byte k = sp - byte (k + 1) := by
        rw [BitVec.sub_sub, byte, byte, BitVec.ofNat_add, BitVec.add_comm]
        rfl
      rw [hnext]
      exact h (k + 1) (Nat.succ_lt_succ hk)
    rw [pushedAll, ih (pushed_wf hm sp v) hrest]
    exact Memory.read_write_other hm v hfirst

/-! ### What each shape does to memory -/

/-- What memory `m` an instruction `i` that runs at `s` can leave. -/
inductive MemoryAfter (i : Instr) (s : State) (m : Memory) : Prop
  | same (hmn : ¬ stores i.descriptor.mnemonic ∨ i.operand = .accumulator) (hpush : ¬ pushes i.descriptor.mnemonic)
      (hm : m = s.mem)
  | stored {ea : Word} {v : Byte} (hmn : stores i.descriptor.mnemonic) (hpush : ¬ pushes i.descriptor.mnemonic)
      (hea : (resolve i.operand s).1.operand = .mem ea)
      (hreg : ∀ reg, storedRegister i.descriptor.mnemonic = some reg → v = reg s) (hm : m = s.mem.write ea.toNat v)
  | pushed {vs : List Byte} (hmn : ¬ stores i.descriptor.mnemonic) (hpush : pushes i.descriptor.mnemonic)
      (ho : i.operand ≠ .accumulator)
      (hlen : vs.length = if i.descriptor.mnemonic = .BRK then 3 else if i.descriptor.mnemonic = .JSR then 2 else 1)
      (hm : m = pushedAll s.mem s.sp vs)

@[simp] theorem resolve_mem (o : Operand) (s : State) : (resolve o s).2.mem = s.mem := by
  obtain ⟨_, hst⟩ := resolve_state o s
  rw [hst]

section
variable {mn : Mnemonic} {s : State}

theorem readEffect_mem {effect : Byte → State → State} (he : readEffect mn = some effect) (m : Byte) (u : State) :
    (¬ stores mn ∧ ¬ pushes mn) ∧ (effect m u).mem = u.mem := by
  cases mn <;> cases he <;> exact ⟨by simp [stores, modifies, pushes], rfl⟩

theorem storedRegister_mem {reg : State → Byte} (hr : storedRegister mn = some reg) : stores mn ∧ ¬ pushes mn := by
  cases mn <;> cases hr <;> simp [stores, pushes]

theorem modifyEffect_mem {result : Byte → State → Byte} {flags : Byte → State → State}
    (he : modifyEffect mn = some (result, flags)) (m : Byte) (u : State) :
    (stores mn ∧ ¬ pushes mn ∧ storedRegister mn = none) ∧ (flags m u).mem = u.mem := by
  cases mn <;> cases he <;> exact ⟨by simp [stores, modifies, pushes, storedRegister], rfl⟩

theorem impliedEffect_mem {effect : State → State} (he : impliedEffect mn = some effect) (s : State) :
    ¬ stores mn ∧ (¬ pushes mn ∧ (effect s).mem = s.mem ∨
      (pushes mn ∧ mn ≠ .BRK ∧ mn ≠ .JSR) ∧ ∃ v, (effect s).mem = pushed s.mem s.sp v) := by
  have hpush (v : Byte) : (push v s).mem = pushed s.mem s.sp v := (congrArg State.mem (arch_push v s) :)
  cases mn <;> cases he <;> refine ⟨by simp [stores, modifies], ?_⟩
  case PHA | PHP => exact .inr ⟨by simp [pushes], _, hpush _⟩
  all_goals exact .inl ⟨by simp [pushes], rfl⟩

theorem branchTaken_mem {taken : Bool} (ht : branchTaken mn s = some taken) : ¬ stores mn ∧ ¬ pushes mn := by
  cases mn <;> cases ht <;> simp [stores, modifies, pushes]

end

theorem exec_memoryAfter {i : Instr} {s t : State} (hwf : i.WellFormed) (h : exec i s = .next t) :
    MemoryAfter i s t.mem := by
  cases exec_shape i with
  | read he hexec =>
    rw [hexec] at h
    obtain ⟨m, bus, pc, k, rfl⟩ := runRead_frame h
    obtain ⟨⟨hstores, hpush⟩, hmem⟩ := readEffect_mem he m { s with bus := bus }
    exact .same (.inl hstores) hpush hmem
  | write hr hexec =>
    rw [hexec] at h
    obtain ⟨u, hwrite, rfl⟩ := runWrite_next h
    have ho : i.operand ≠ .accumulator := mt (mnemonic_of_accumulator hwf) (not_shift_of_storedRegister hr)
    obtain ⟨hacc, -⟩ | ⟨ea, hea, rfl⟩ := operandWrite_some hwrite
    · exact absurd (resolve_operand_acc hacc) ho
    · obtain ⟨hstores, hpush⟩ := storedRegister_mem hr
      refine .stored hstores hpush hea (fun reg hreg => ?_) (by rw [retireAt_mem, memWrite_mem, resolve_mem])
      rw [Option.some.inj (hr.symm.trans hreg)]
  | modify he hexec =>
    rw [hexec] at h
    obtain ⟨m, u, u', hread, hwrite, rfl⟩ := runModify_next h
    obtain ⟨-, bus, rfl⟩ := operandRead_resolve hread
    obtain ⟨⟨hstores, hpush, hnone⟩, hmem⟩ := modifyEffect_mem he m { s with bus := bus }
    obtain ⟨hacc, rfl⟩ | ⟨ea, hea, rfl⟩ := operandWrite_some hwrite
    · exact .same (.inr (resolve_operand_acc hacc)) hpush hmem
    · refine .stored hstores hpush hea (fun reg hreg => ?_) (by rw [retireAt_mem, memWrite_mem, hmem])
      rw [hnone] at hreg
      cases hreg
  | implied he ho hexec =>
    rw [hexec] at h
    cases h
    obtain ⟨hstores, ⟨hpush, hmem⟩ | ⟨⟨hpush, hbrk, hjsr⟩, v, hmem⟩⟩ := impliedEffect_mem he s
    · exact .same (.inl hstores) hpush hmem
    · exact .pushed (vs := [v]) hstores hpush (by rw [ho]; nofun) (by rw [if_neg hbrk, if_neg hjsr]; rfl) hmem
  | branch ht hexec =>
    rw [hexec] at h
    obtain ⟨bus, pc, k, rfl⟩ := runBranch_frame h
    obtain ⟨hstores, hpush⟩ := branchTaken_mem (ht s)
    exact .same (.inl hstores) hpush rfl
  | jump hmn hexec =>
    rw [hexec] at h
    obtain ⟨bus, pc, k, rfl⟩ := runJump_frame h
    exact .same (.inl (by simp [hmn, stores, modifies])) (by simp [hmn, pushes]) rfl
  | jsr w hi =>
    subst hi
    obtain ⟨harch, -⟩ := arch_of_completes (jsr_completes s w) h
    exact .pushed (vs := [_, _]) (by simp [stores, modifies]) (by simp [pushes]) nofun (by rw [mnemonic_jsr]; rfl)
      (congrArg State.mem harch)
  | brk hi =>
    subst hi
    obtain ⟨harch, -⟩ := arch_of_completes (brk_completes s) h
    have hm : t.mem = framePushed s (BitVec.ofNat 16 (s.pc.toNat + 2)) 1 := (congrArg State.mem harch :)
    rw [framePushed, ← sp_sub_one_sub_one] at hm
    exact .pushed (vs := [_, _, _]) (by simp [stores, modifies]) (by simp [pushes]) nofun
      (by rw [mnemonic_brk]; rfl) hm
  | rts hi =>
    subst hi
    cases h
    exact .same (.inl (by simp [stores, modifies])) (by simp [pushes]) rfl
  | rti hi =>
    subst hi
    cases h
    exact .same (.inl (by simp [stores, modifies])) (by simp [pushes]) rfl
  | ill op hi =>
    subst hi
    cases h
    have hmn : (Instr.ill op).descriptor.mnemonic = .ILL := congrArg Descriptor.mnemonic (descriptor_ill hwf)
    exact .same (.inl (by simp [hmn, stores, modifies])) (by simp [hmn, pushes]) rfl

/-- Settles O48, by what the instruction does to memory. -/
theorem onlyStoredBytesChange : Obligations.OnlyStoredBytesChange := by
  unfold Obligations.OnlyStoredBytesChange
  intro i s t hm hwf h mn
  cases exec_memoryAfter hwf h with
  | same hmn hpush hmem =>
    refine ⟨fun hstores ea hea => ?_, fun hp => absurd hp hpush, fun _ a => by rw [hmem]⟩
    rcases hmn with hmn | ho
    · exact absurd hstores hmn
    · rw [ho] at hea
      cases hea
  | stored hstores hpush hea hreg hmem =>
    rw [hmem]
    refine ⟨fun _ ea' hea' => ?_, fun hp => absurd hp hpush, fun hnone => ?_⟩
    · cases hea.symm.trans hea'
      refine ⟨fun a ha => Memory.read_write_other hm _ ha, ?_, ?_, ?_⟩ <;> intro hmn <;>
        rw [Memory.read_write_same hm] <;> exact hreg _ (by rw [show i.descriptor.mnemonic = _ from hmn]; rfl)
    · rcases hnone with ⟨hmn, -⟩ | ho
      · exact absurd hstores hmn
      · rw [ho] at hea
        cases hea
  | pushed hstores hpush ho hlen hmem =>
    rw [hmem]
    refine ⟨fun hs => absurd hs hstores, fun _ a ha => read_pushedAll_other hm (hlen ▸ ha), fun hnone => ?_⟩
    rcases hnone with ⟨-, hp⟩ | hacc
    · exact absurd hpush hp
    · exact absurd hacc ho

theorem memoryAfter_wf {i : Instr} {s : State} {m : Memory} (h : MemoryAfter i s m) (hm : s.mem.wf) : m.wf := by
  cases h with
  | same _ _ hmem => exact hmem ▸ hm
  | stored _ _ _ _ hmem => exact hmem ▸ Memory.wf_write_word hm _ _
  | pushed _ _ _ _ hmem => exact hmem ▸ pushedAll_wf hm _ _

end Sys2Proof.Machine
end

section
/-! The boundary invariant over steps, host operations and runs (spec/10_state.md R37; spec/49_step_fsm.md R281, R289,
R290), and when a change of the interrupt mask counts (spec/60_exceptions.md R311). -/

namespace Sys2Proof.Safety

open Sys2Proof.Machine Sys2Proof.Claims

/-! ### The invariant -/

theorem inv_step {s t : State} (hinv : Inv s) (h : step s = .next t) : Inv t := by
  obtain ⟨hm, -⟩ := hinv
  constructor
  case memWf =>
    rcases step_next h with ⟨-, rfl⟩ | ⟨-, rfl⟩ | ⟨-, -, rfl⟩ | ⟨-, -, -, -, rfl⟩ | ⟨-, -, -, hexec⟩
    · exact hm
    · exact hm
    · exact interruptEntry_wf (s := clearOutputs s) hm .nmi
    · exact interruptEntry_wf (s := clearOutputs s) hm .irq
    · rw [fetch_clearOutputs_fst, fetch_clearOutputs_snd] at hexec
      exact memoryAfter_wf (exec_memoryAfter (fetch_makes s).2 hexec) hm
  case boundary =>
    obtain ⟨hfsm, -⟩ := fsmTransitions
    rw [hfsm s t h]
    split <;> nofun

theorem inv_applyHostOp {s : State} (hinv : Inv s) (op : HostOp) : Inv (applyHostOp op s) := by
  obtain ⟨hm, hb⟩ := hinv
  cases op with
  | reset => exact ⟨hm, nofun⟩
  | halt => exact ⟨hm, nofun⟩
  | injectNmi => exact ⟨hm, hb⟩
  | injectIrq => exact ⟨hm, hb⟩
  | editMemory addr value => exact ⟨Memory.wf_write_word hm addr value, hb⟩

/-- Settles O11: memory by what a step does to it, FSM by where a step takes it. -/
theorem boundaryInvariantKept : Obligations.BoundaryInvariantKept := by
  unfold Obligations.BoundaryInvariantKept
  exact ⟨fun _ _ => inv_step, fun _ op hinv => inv_applyHostOp hinv op⟩

theorem inv_of_reachable {s : State} (h : Reachable s) : Inv s := by
  induction h with
  | powerUp => exact boundaryInvariantAtPowerUp
  | step _ hstep ih => exact inv_step ih hstep
  | host op _ ih => exact inv_applyHostOp ih op

/-- Settles O12: the invariant holds along every run, and a step goes on from any state that has it. -/
theorem runsNeverStop : Obligations.RunsNeverStop := by
  unfold Obligations.RunsNeverStop
  intro s h
  have hinv := inv_of_reachable h
  exact ⟨hinv, proceeds_of_boundary hinv.boundary⟩

end Sys2Proof.Safety

namespace Sys2Proof.Machine

open Sys2Proof.Claims Sys2Proof.Safety

/-! ### CLI and SEI at the next boundary -/

theorem fetch_of_make {s : State} {i : Instr} (h : (lookupRow (s.mem.read s.pc.toNat)).make = .f1 i) :
    (fetch s).1 = i := by
  simp only [fetch, memRead_fst, h]

/-- A step that executes a one-byte instruction known to complete. -/
theorem step_of_completes {s u : State} {i : Instr} {k : Nat} (hx : Executes s)
    (hmake : (lookupRow (s.mem.read s.pc.toNat)).make = .f1 i) (h : Completes i (fetched i s) u k) :
    ∃ t, step s = .next t ∧ arch t = arch { u with cyc := s.cyc + k } := by
  obtain ⟨t, hexec, harch, -⟩ := h
  refine ⟨t, ?_, harch⟩
  rw [step_of_executes hx, fetch_of_make hmake, hexec]

/-- Settles O60: the mask that the boundary after CLI or SEI reads is the one they left. -/
theorem interruptMaskTakesEffectAtOnce : Obligations.InterruptMaskTakesEffectAtOnce := by
  unfold Obligations.InterruptMaskTakesEffectAtOnce
  intro s hm hrun hnmi
  constructor
  case left =>
    intro hirq hi hcli
    have hmake : (lookupRow (s.mem.read s.pc.toNat)).make = .f1 .cli := by rw [hcli]; exact make_cli
    obtain ⟨-, -, hdone, -⟩ := flagAndNopResults (fetched .cli s)
    obtain ⟨t, hstep, harch⟩ := step_of_completes ⟨hrun, hnmi, .inr hi⟩ hmake hdone
    have hpc : t.pc = s.pc + 1 :=
      (congrArg State.pc harch :).trans (eq_ofNat_of_toNat_mod (BitVec.toNat_add s.pc 1)).symm
    have hmem : t.mem = s.mem := (congrArg State.mem harch :)
    have hsp : t.sp = s.sp := (congrArg State.sp harch :)
    have hti : t.i = false := (congrArg State.i harch :)
    have hentry := step_of_irq (s := t) ((congrArg State.fsm harch :).trans hrun)
      ((congrArg State.nmiPend harch :).trans hnmi) ((congrArg State.irqPend harch :).trans hirq) hti
    have hu := arch_interruptEntry_irq (clearOutputs t)
    have humem : (interruptEntry .irq (clearOutputs t)).mem = framePushed (clearOutputs t) t.pc 0 :=
      (congrArg State.mem hu :)
    obtain ⟨hhigh, hlow, -⟩ := read_framePushed (s := clearOutputs t) (hmem ▸ hm) t.pc 0
    rw [← humem, clearOutputs_sp, hsp, hpc] at hhigh hlow
    refine ⟨t, _, hstep, hentry, hti, (congrArg State.irqPend hu :), rfl, ?_, ?_, hhigh, hlow⟩
    · rw [← hsp]
      exact (congrArg State.sp hu :)
    · rw [humem]
      exact (congrArg State.pc hu :)
  case right =>
    intro hirq hsei
    have hmake : (lookupRow (s.mem.read s.pc.toNat)).make = .f1 .sei := by rw [hsei]; exact make_sei
    obtain ⟨-, -, -, hdone, -⟩ := flagAndNopResults (fetched .sei s)
    obtain ⟨t, hstep, harch⟩ := step_of_completes ⟨hrun, hnmi, .inl hirq⟩ hmake hdone
    have hti : t.i = true := (congrArg State.i harch :)
    have htrun : t.fsm = .running := (congrArg State.fsm harch :).trans hrun
    obtain ⟨u, hu⟩ := proceeds_of_running (s := applyHostOp .injectIrq t) htrun
    obtain ⟨-, hirqu⟩ := requestLatches _ u hu
    refine ⟨t, u, hstep, hu, hti, ?_⟩
    rw [hirqu]
    simp [applyHostOp, htrun, hti]

end Sys2Proof.Machine
end

section
/-! The cycles of every step (spec/49_step_fsm.md R284): an instruction that is no branch charges its base cycles and
its page penalty, which only the instructions that read their operand can pay. -/

namespace Sys2Proof.Machine

open Sys2Proof.Claims

/-! ### The table -/

/-- Only rows whose mnemonic reads its operand are eligible for the page penalty (R88). -/
theorem penalty_of_readEffect_none : ∀ op : Byte, readEffect (lookup op).mnemonic = none →
    (lookup op).penalty = false := by
  have h : ∀ op : Byte, (readEffect (lookup op).mnemonic).isNone → (lookup op).penalty = false := by decide +kernel
  exact fun op hnone => h op (by rw [hnone]; rfl)

/-- Base cycles and a page penalty are 2 to 7 together (R284). -/
theorem lookup_cycles_bounds : ∀ op : Byte,
    2 ≤ (lookup op).cycles ∧ (lookup op).cycles + (if (lookup op).penalty then 1 else 0) ≤ 7 := by decide +kernel

theorem cost_bounds (i : Instr) (s : State) : 2 ≤ cost i s ∧ cost i s ≤ 7 := by
  obtain ⟨hmin, hmax⟩ : 2 ≤ i.descriptor.cycles ∧
      i.descriptor.cycles + (if i.descriptor.penalty then 1 else 0) ≤ 7 := lookup_cycles_bounds i.opcode
  have hextra : (if i.descriptor.penalty && crosses i.operand s then 1 else 0) ≤
      (if i.descriptor.penalty then 1 else 0) := by
    cases i.descriptor.penalty <;> cases crosses i.operand s <;> decide
  rw [cost]
  omega

/-! ### An instruction's cycles -/

/-- An instruction that neither reads its operand only nor branches charges its base cycles. -/
theorem exec_cycles_of_neither {i : Instr} {s t : State} (hwf : i.WellFormed) (h : exec i s = .next t)
    (hread : readEffect i.descriptor.mnemonic = none) (hbranch : branchTaken i.descriptor.mnemonic s = none) :
    t.cycles = i.descriptor.cycles := by
  have hfree (crossed : Bool) : penalty (lookup i.opcode) crossed = 0 := by
    rw [penalty, penalty_of_readEffect_none i.opcode hread]
    rfl
  cases exec_shape i with
  | read he => cases he.symm.trans hread
  | branch ht => cases (ht s).symm.trans hbranch
  | write hr hexec =>
    rw [hexec] at h
    obtain ⟨u, -, rfl⟩ := runWrite_next h
    rw [retireAt_cycles, hfree]
    rfl
  | modify he hexec =>
    rw [hexec] at h
    obtain ⟨m, u, u', -, -, rfl⟩ := runModify_next h
    rw [retireAt_cycles, hfree]
    rfl
  | implied he ho hexec =>
    rw [hexec] at h
    cases h
    rw [retireAt_cycles, Instr.descriptor, hfree]
    rfl
  | jump hmn hexec =>
    rw [hexec] at h
    obtain ⟨ea, -, rfl⟩ := runJump_next h
    rfl
  | jsr w hi | rts hi | brk hi | rti hi =>
    subst hi
    cases h
    rfl
  | ill op hi =>
    subst hi
    cases h
    rw [descriptor_ill hwf]
    rfl

/-- The cycles of an instruction that runs at `s` (R284, R200). -/
def instructionCycles (i : Instr) (s : State) : Nat :=
  match branchTaken i.descriptor.mnemonic s with
  | some taken => 2 + (if taken then (if crosses i.operand s then 2 else 1) else 0)
  | none => cost i s

theorem exec_cycles {i : Instr} {s t : State} (hwf : i.WellFormed) (h : exec i s = .next t) :
    t.cycles = instructionCycles i s := by
  rw [instructionCycles]
  cases hb : branchTaken i.descriptor.mnemonic s with
  | some taken =>
    obtain ⟨b, ho⟩ := operand_of_branchTaken hwf hb
    obtain ⟨-, hcycles⟩ := arch_of_completes (branch_completes hwf hb ho) h
    rw [hcycles, ho]
    cases taken <;> cases crosses (.relative b) s <;> rfl
  | none =>
    cases hr : readEffect i.descriptor.mnemonic with
    | some effect =>
      obtain ⟨m, -, hdone⟩ := completes_of_readEffect ⟨hwf, rfl⟩ hr s
      exact (arch_of_completes hdone h).2
    | none =>
      have hpenalty : i.descriptor.penalty = false := penalty_of_readEffect_none i.opcode hr
      rw [exec_cycles_of_neither hwf h hr hb, cost, hpenalty]
      rfl

theorem instructionCycles_bounds (i : Instr) (s : State) :
    2 ≤ instructionCycles i s ∧ instructionCycles i s ≤ 7 := by
  rw [instructionCycles]
  cases branchTaken i.descriptor.mnemonic s with
  | none => exact cost_bounds i s
  | some taken => cases taken <;> cases crosses i.operand s <;> simp

/-! ### A step's cycles -/

/-- Settles O49, by the kind of step. -/
theorem cyclesOfAStep : Obligations.CyclesOfAStep := by
  unfold Obligations.CyclesOfAStep
  intro s t h
  obtain ⟨-, hcyc⟩ := illegalOpSignal.1 s t h
  refine ⟨hcyc, fun hf => ?_, fun hf hx => ?_, fun i rest hx hdec => ?_⟩
  · rcases step_next h with ⟨-, rfl⟩ | ⟨-, rfl⟩ | ⟨hrun, -⟩ | ⟨hrun, -⟩ | ⟨hrun, -⟩
    · rfl
    · rfl
    · exact absurd hrun hf
    · exact absurd hrun hf
    · exact absurd hrun hf
  · rcases step_next h with ⟨hr, -⟩ | ⟨hr, -⟩ | ⟨-, -, rfl⟩ | ⟨-, -, -, -, rfl⟩ | ⟨hrun, hnmi, hirq, -⟩
    · cases hr.symm.trans hf
    · cases hr.symm.trans hf
    · rfl
    · rfl
    · exact absurd ⟨hrun, hnmi, hirq⟩ hx
  · obtain ⟨rfl, hwf⟩ := fetch_of_decode hdec
    rw [step_of_executes hx] at h
    rw [exec_cycles hwf h]
    exact ⟨rfl, instructionCycles_bounds _ _⟩

end Sys2Proof.Machine
end

section
/-! The bus accesses of every step, in order (spec/20_memory.md R58): the fetch, the pointer reads of the resolver, and
the accesses of the instruction's class, of which each shared operation records its own. -/

namespace Sys2Proof.Machine

open Sys2Proof.Claims

/-! ### Stack slots -/

theorem shape_write_slot (s : State) (v : Byte) {k : Nat} (hk : k < 256) :
    shape (.write (stackAddr (s.sp - byte k)) v) = slotDown s k := by
  have := s.sp.isLt
  rw [shape, stackAddr_toNat, BitVec.toNat_sub, BitVec.toNat_ofNat, Nat.mod_eq_of_lt hk, Prod.mk.injEq]
  exact ⟨rfl, by omega⟩

theorem shape_read_slot (s : State) (v : Byte) (k : Nat) :
    shape (.read (stackAddr (s.sp + byte k)) v) = slotUp s k := by
  rw [shape, stackAddr_toNat, BitVec.toNat_add, BitVec.toNat_ofNat, Nat.add_mod_mod]

theorem shape_push (s : State) (v : Byte) : shape (.write (stackAddr s.sp) v) = slotDown s 0 := by
  rw [← shape_write_slot s v (by decide), byte, BitVec.sub_zero]

theorem entryBus_shapes (ret : Word) (brk : Bool) (vec : Word) (s : State) :
    (entryBus ret brk vec s).map shape =
      [slotDown s 0, slotDown s 1, slotDown s 2, (false, vec.toNat), (false, (vec + 1).toNat)] := by
  have hsecond (v : Byte) : shape (.write (stackAddr (s.sp - 1)) v) = slotDown s 1 := shape_write_slot s v (by decide)
  have hthird (v : Byte) : shape (.write (stackAddr (s.sp - 2)) v) = slotDown s 2 := shape_write_slot s v (by decide)
  simp only [entryBus, List.map_cons, List.map_nil, sp_sub_one_sub_one, shape_push, hsecond, hthird]
  rfl

/-! ### Resolving and accessing the operand -/

theorem resolve_shapes (o : Operand) (s : State) :
    (resolve o s).2.bus.map shape = s.bus.map shape ++ pointerReads o s := by
  cases o with
  | indirect w =>
    rw [pointerReads, ← nextInPage_toNat]
    simp [resolve, read16Bug, shape]
  | indexedIndirect b =>
    have hlow := zext16_add_toNat b s.x
    have hhigh : (zext16 (b + s.x + 1)).toNat = (b.toNat + s.x.toNat + 1) % 256 := by
      rw [zext16_add_toNat, BitVec.toNat_add]
      exact Nat.mod_add_mod ..
    rw [pointerReads, ← hlow, ← hhigh]
    simp [resolve, read16ZP, shape]
  | indirectIndexed b =>
    have hhigh : (zext16 (b + 1)).toNat = (b.toNat + 1) % 256 := zext16_add_toNat b 1
    rw [pointerReads, ← hhigh, ← zext16_toNat b]
    simp [resolve, read16ZP, shape]
  | _ => simp [resolve, pointerReads]

theorem pointerReads_implied (s : State) : pointerReads .implied s = [] := rfl

/-- The access of phase 3 to the operand: one at the effective address, if the operand has one (R126). -/
abbrev operandAccess (o : Operand) (s : State) (write : Bool) : List (Bool × Nat) :=
  (address o s).toList.map (write, ·)

theorem address_none_of_resolve {o : Operand} {s : State} (h : ∀ ea, (resolve o s).1.operand ≠ .mem ea) :
    address o s = none := by
  cases o with
  | implied | accumulator | immediate => rfl
  | _ => exact absurd rfl (h _)

theorem operandRead_shapes {o : Operand} {s u v : State} {m : Byte}
    (hu : operandRead (resolve o s).1.operand u = some (m, v)) :
    v.bus.map shape = u.bus.map shape ++ operandAccess o s false := by
  obtain ⟨he, -, rfl⟩ | ⟨he, rfl⟩ | ⟨ea, he, -, rfl⟩ := operandRead_some hu
  · rw [operandAccess, address_none_of_resolve fun ea => by rw [he]; nofun]
    simp
  · rw [operandAccess, address_none_of_resolve fun ea => by rw [he]; nofun]
    simp
  · rw [operandAccess, address_of_resolve he]
    simp [shape]

theorem operandWrite_shapes {o : Operand} {s u v : State} {r : Byte}
    (hu : operandWrite (resolve o s).1.operand r u = some v) :
    v.bus.map shape = u.bus.map shape ++ operandAccess o s true := by
  obtain ⟨he, rfl⟩ | ⟨ea, he, rfl⟩ := operandWrite_some hu
  · rw [operandAccess, address_none_of_resolve fun ea => by rw [he]; nofun]
    simp
  · rw [operandAccess, address_of_resolve he]
    simp [shape]

/-! ### The accesses of each shape -/

section
variable {i : Instr} {s : State}

theorem readEffect_accesses {effect : Byte → State → State} (he : readEffect i.descriptor.mnemonic = some effect) :
    executeAccesses i s = operandAccess i.operand s false ∧ ∀ m u, (effect m u).bus = u.bus := by
  rw [executeAccesses]
  cases hmn : i.descriptor.mnemonic <;> rw [hmn] at he <;> cases he <;> exact ⟨rfl, fun _ _ => rfl⟩

theorem storedRegister_accesses {reg : State → Byte} (hr : storedRegister i.descriptor.mnemonic = some reg) :
    executeAccesses i s = operandAccess i.operand s true := by
  rw [executeAccesses]
  cases hmn : i.descriptor.mnemonic <;> rw [hmn] at hr <;> cases hr

theorem modifyEffect_accesses {result : Byte → State → Byte} {flags : Byte → State → State}
    (he : modifyEffect i.descriptor.mnemonic = some (result, flags)) :
    executeAccesses i s = operandAccess i.operand s false ++ operandAccess i.operand s true ∧
      ∀ m u, (flags m u).bus = u.bus := by
  rw [executeAccesses]
  cases hmn : i.descriptor.mnemonic <;> rw [hmn] at he <;> cases he <;> exact ⟨rfl, fun _ _ => rfl⟩

theorem branchTaken_accesses {taken : Bool} (ht : branchTaken i.descriptor.mnemonic s = some taken) :
    executeAccesses i s = [] := by
  rw [executeAccesses]
  cases hmn : i.descriptor.mnemonic <;> rw [hmn] at ht <;> cases ht

theorem impliedEffect_accesses {effect : State → State} (he : impliedEffect i.descriptor.mnemonic = some effect) :
    (effect s).bus.map shape = s.bus.map shape ++ executeAccesses i s := by
  rw [executeAccesses]
  have hpull (v : Byte) : shape (.read (stackAddr (s.sp + 1#8)) v) = slotUp s 1 := shape_read_slot s v 1
  cases hmn : i.descriptor.mnemonic <;> rw [hmn] at he <;> cases he
  case PHA | PHP => simp [shape_push]
  case PLA => simp [pullA, hpull]
  case PLP => simp [pullP, hpull]
  all_goals simp [putX, putY]

end

/-! ### The instructions -/

/-- Phases 2 and 3 of R58 after the operand bytes: the pointer reads, then the accesses of the class. -/
theorem exec_accesses {i : Instr} {s t : State} (hwf : i.WellFormed) (h : exec i s = .next t) :
    t.bus.map shape = s.bus.map shape ++ pointerReads i.operand s ++ executeAccesses i s := by
  cases exec_shape i with
  | read he hexec =>
    rw [hexec] at h
    obtain ⟨m, u, hread, rfl⟩ := runRead_next h
    obtain ⟨hacc, hbus⟩ := readEffect_accesses (s := s) he
    rw [retireAt_bus, hbus, operandRead_shapes hread, resolve_shapes, hacc]
  | write hr hexec =>
    rw [hexec] at h
    obtain ⟨u, hwrite, rfl⟩ := runWrite_next h
    rw [retireAt_bus, operandWrite_shapes hwrite, resolve_shapes, storedRegister_accesses hr]
  | modify he hexec =>
    rw [hexec] at h
    obtain ⟨m, u, u', hread, hwrite, rfl⟩ := runModify_next h
    obtain ⟨hacc, hbus⟩ := modifyEffect_accesses (s := s) he
    rw [retireAt_bus, operandWrite_shapes hwrite, hbus, operandRead_shapes hread, resolve_shapes, hacc]
    simp only [List.append_assoc]
  | implied he ho hexec =>
    rw [hexec] at h
    cases h
    rw [retireAt_bus, impliedEffect_accesses he, ho, pointerReads_implied, List.append_nil]
  | branch ht hexec =>
    rw [hexec] at h
    rw [branchTaken_accesses (ht s), List.append_nil, ← resolve_shapes]
    obtain ⟨target, -, ⟨-, rfl⟩ | ⟨-, rfl⟩⟩ := runBranch_next h <;> rfl
  | jump hmn hexec =>
    rw [hexec] at h
    obtain ⟨ea, -, rfl⟩ := runJump_next h
    have hnone : executeAccesses i s = [] := by rw [executeAccesses, hmn]
    rw [hnone, List.append_nil, ← resolve_shapes]
    rfl
  | jsr w hi =>
    subst hi
    cases h
    have hacc : executeAccesses (.jsr w) s = [slotDown s 0, slotDown s 1] := by rw [executeAccesses, mnemonic_jsr]
    have hsecond (v : Byte) : shape (.write (stackAddr (s.sp - 1#8)) v) = slotDown s 1 :=
      shape_write_slot s v (by decide)
    simp [hacc, resolve, Instr.operand, pointerReads, shape_push, hsecond]
  | rts hi =>
    subst hi
    cases h
    have hacc : executeAccesses .rts s = [slotUp s 1, slotUp s 2] := by rw [executeAccesses, mnemonic_rts]
    have hfirst (v : Byte) : shape (.read (stackAddr (s.sp + 1)) v) = slotUp s 1 := shape_read_slot s v 1
    have hsecond (v : Byte) : shape (.read (stackAddr (s.sp + 2)) v) = slotUp s 2 := shape_read_slot s v 2
    rw [hacc, Instr.operand, pointerReads_implied, retireAt_bus, pull16_bus, sp_add_one_add_one]
    simp only [List.map_append, List.map_cons, List.map_nil, hfirst, hsecond, List.append_assoc, List.nil_append,
      List.cons_append]
  | brk hi =>
    subst hi
    cases h
    have hacc : executeAccesses .brk s =
        [slotDown s 0, slotDown s 1, slotDown s 2, (false, 0xFFFE), (false, 0xFFFF)] := by
      rw [executeAccesses, mnemonic_brk]
    rw [hacc, Instr.operand, pointerReads_implied, List.append_nil, retireAt_bus, enterInterrupt_eq, List.map_append,
      entryBus_shapes]
    rfl
  | rti hi =>
    subst hi
    cases h
    have hacc : executeAccesses .rti s = [slotUp s 1, slotUp s 2, slotUp s 3] := by rw [executeAccesses, mnemonic_rti]
    have hslot (k : Nat) (v : Byte) : shape (.read (stackAddr (s.sp + byte k)) v) = slotUp s k := shape_read_slot s v k
    rw [hacc, Instr.operand, pointerReads_implied, List.append_nil, retireAt_bus, returnFromInterrupt_eq,
      List.map_append, ← hslot 1, ← hslot 2, ← hslot 3]
    rfl
  | ill op hi =>
    subst hi
    cases h
    have hmn : (Instr.ill op).descriptor.mnemonic = .ILL := congrArg Descriptor.mnemonic (descriptor_ill hwf)
    have hacc : executeAccesses (.ill op) s = [] := by rw [executeAccesses, hmn]
    rw [hacc, Instr.operand, pointerReads_implied, List.append_nil, List.append_nil]
    rfl

/-! ### The steps -/

theorem fetched_shapes (i : Instr) (s : State) :
    (fetched i s).bus.map shape = (List.range (encode i).length).map fun k => (false, (s.pc.toNat + k) % 65536) := by
  rw [fetched, List.map_map]
  refine List.map_congr_left fun k _ => ?_
  rw [Function.comp, shape, add_ofNat_toNat]

/-- Settles O52, by the kind of step. -/
theorem busAccessSequence : Obligations.BusAccessSequence := by
  unfold Obligations.BusAccessSequence
  intro s t h
  refine ⟨fun i rest hx hdec => ?executes, fun hf hx => ?enters, fun hf => ?resets, fun hf => ?halted⟩
  case executes =>
    obtain ⟨rfl, hwf⟩ := fetch_of_decode hdec
    rw [step_of_executes hx] at h
    rw [exec_accesses hwf h, fetched_shapes]
    rfl
  case enters =>
    rcases step_next h with ⟨hr, -⟩ | ⟨hr, -⟩ | ⟨-, hnmi, rfl⟩ | ⟨-, hnmi, -, -, rfl⟩ | ⟨hrun, hnmi, hirq, -⟩
    · cases hr.symm.trans hf
    · cases hr.symm.trans hf
    · rw [if_pos hnmi, interruptEntry_nmi, charge_bus, enterInterrupt_eq]
      exact entryBus_shapes s.pc false 0xFFFA { clearOutputs s with nmiPend := false }
    · rw [if_neg (by rw [hnmi]; nofun), interruptEntry_irq, charge_bus, enterInterrupt_eq]
      exact entryBus_shapes s.pc false 0xFFFE { clearOutputs s with irqPend := false }
    · exact absurd ⟨hrun, hnmi, hirq⟩ hx
  case resets =>
    rw [step_of_reset hf] at h
    cases h
    rw [resetSequence_eq]
    rfl
  case halted =>
    rw [step_of_halted hf] at h
    cases h
    rfl

end Sys2Proof.Machine
end

section
/-! What no instruction looks at (spec/70_reset_and_hazards.md R353; spec/42_arithmetic.md R154): every shared operation
commutes with a change of CYC, and with a change of D too, but for the six instructions that push or write D. -/

namespace Sys2Proof.Machine

open Sys2Proof.Claims

/-! ### The operations -/

/-- The state with another D and with CYC larger by `k`. -/
def withHidden (g : Bool → Bool) (k : Nat) (s : State) : State := { s with d := g s.d, cyc := s.cyc + k }

section
variable (g : Bool → Bool) (k : Nat) (s : State)

theorem charge_withHidden (n : Nat) : charge n (withHidden g k s) = withHidden g k (charge n s) := by
  rw [charge, charge, withHidden, withHidden, Nat.add_right_comm]

theorem retireAt_withHidden (d : Descriptor) (n : Nat) (pc : Word) :
    retireAt d n pc (withHidden g k s) = withHidden g k (retireAt d n pc s) := by
  rw [retireAt, charge_withHidden]
  rfl

theorem resolve_withHidden (o : Operand) :
    resolve o (withHidden g k s) = ((resolve o s).1, withHidden g k (resolve o s).2) := by
  cases o <;> rfl

theorem operandRead_withHidden (e : Effective) :
    operandRead e (withHidden g k s) = (operandRead e s).map fun r => (r.1, withHidden g k r.2) := by
  cases e <;> rfl

theorem operandWrite_withHidden (e : Effective) (v : Byte) :
    operandWrite e v (withHidden g k s) = (operandWrite e v s).map (withHidden g k) := by
  cases e <;> rfl

end

/-! ### The shapes -/

section
variable {opc : Byte} {o : Operand} {g : Bool → Bool} {k : Nat} {s t : State}

theorem runRead_withHidden {effect : Byte → State → State}
    (heff : ∀ m u, effect m (withHidden g k u) = withHidden g k (effect m u)) (h : runRead opc o effect s = .next t) :
    runRead opc o effect (withHidden g k s) = .next (withHidden g k t) := by
  obtain ⟨m, u, hread, rfl⟩ := runRead_next h
  simp only [runRead, resolve_withHidden, operandRead_withHidden, hread, Option.map_some, heff, ← retireAt_withHidden]
  rfl

theorem runWrite_withHidden {v : Byte} (h : runWrite opc o v s = .next t) :
    runWrite opc o v (withHidden g k s) = .next (withHidden g k t) := by
  obtain ⟨u, hwrite, rfl⟩ := runWrite_next h
  simp only [runWrite, resolve_withHidden, operandWrite_withHidden, hwrite, Option.map_some, ← retireAt_withHidden]
  rfl

theorem runModify_withHidden {result : Byte → State → Byte} {flags : Byte → State → State}
    (hres : ∀ m u, result m (withHidden g k u) = result m u)
    (hflags : ∀ m u, flags m (withHidden g k u) = withHidden g k (flags m u))
    (h : runModify opc o result flags s = .next t) :
    runModify opc o result flags (withHidden g k s) = .next (withHidden g k t) := by
  obtain ⟨m, u, u', hread, hwrite, rfl⟩ := runModify_next h
  simp only [runModify, resolve_withHidden, operandRead_withHidden, hread, Option.map_some, hres, hflags,
    operandWrite_withHidden, hwrite, ← retireAt_withHidden]
  rfl

theorem runJump_withHidden {effect : State → State} (heff : ∀ u, effect (withHidden g k u) = withHidden g k (effect u))
    (h : runJump opc o effect s = .next t) :
    runJump opc o effect (withHidden g k s) = .next (withHidden g k t) := by
  obtain ⟨ea, hea, rfl⟩ := runJump_next h
  simp only [runJump, resolve_withHidden, hea, heff, ← retireAt_withHidden]

theorem runBranch_withHidden {taken : Bool} (h : runBranch opc o taken s = .next t) :
    runBranch opc o taken (withHidden g k s) = .next (withHidden g k t) := by
  obtain ⟨ea, hea, ⟨rfl, rfl⟩ | ⟨rfl, rfl⟩⟩ := runBranch_next h <;>
    simp only [runBranch, resolve_withHidden, hea, ← retireAt_withHidden] <;> rfl

end

/-! ### The effects, by mnemonic -/

section
variable {mn : Mnemonic} {g : Bool → Bool} {k : Nat}

theorem readEffect_withHidden {effect : Byte → State → State} (he : readEffect mn = some effect) (m : Byte)
    (u : State) : effect m (withHidden g k u) = withHidden g k (effect m u) := by
  cases mn <;> cases he <;> rfl

theorem modifyEffect_withHidden {result : Byte → State → Byte} {flags : Byte → State → State}
    (he : modifyEffect mn = some (result, flags)) (m : Byte) (u : State) :
    result m (withHidden g k u) = result m u ∧ flags m (withHidden g k u) = withHidden g k (flags m u) := by
  cases mn <;> cases he <;> exact ⟨rfl, rfl⟩

theorem storedRegister_withHidden {reg : State → Byte} (hr : storedRegister mn = some reg) (u : State) :
    reg (withHidden g k u) = reg u := by
  cases mn <;> cases hr <;> rfl

theorem branchTaken_withHidden (s : State) : branchTaken mn (withHidden g k s) = branchTaken mn s := by
  cases mn <;> rfl

/-- The instructions without an operand that push or write D are PHP, SED, CLD and PLP. -/
theorem impliedEffect_withHidden {effect : State → State} (he : impliedEffect mn = some effect)
    (hg : g = id ∨ mn ∉ [.PHP, .BRK, .SED, .CLD, .PLP, .RTI]) (s : State) :
    effect (withHidden g k s) = withHidden g k (effect s) := by
  rcases hg with rfl | hmn
  · cases mn <;> cases he <;> rfl
  · cases mn
    case PHP | SED | CLD | PLP => exact absurd (by decide) hmn
    all_goals cases he <;> rfl

end

/-! ### The instructions -/

/-- An interrupt entry pushes D as it was. -/
theorem entryMem_withHidden (ret : Word) (brk : Bool) (k : Nat) (s : State) :
    entryMem ret brk (withHidden id k s) = entryMem ret brk s := rfl

theorem entryBus_withHidden (ret : Word) (brk : Bool) (vec : Word) (k : Nat) (s : State) :
    entryBus ret brk vec (withHidden id k s) = entryBus ret brk vec s := by
  rw [entryBus, entryBus, entryMem_withHidden]
  rfl

theorem enterInterrupt_withHidden (ret : Word) (brk : Bool) (vec : Word) (k : Nat) (s : State) :
    enterInterrupt ret brk vec (withHidden id k s) = withHidden id k (enterInterrupt ret brk vec s) := by
  rw [enterInterrupt_eq, enterInterrupt_eq, entryMem_withHidden, entryBus_withHidden]
  rfl

/-- With another CYC, and for an instruction that neither pushes nor writes D with another D, the same happens. -/
theorem exec_withHidden {i : Instr} {g : Bool → Bool} {k : Nat} {s t : State} (hwf : i.WellFormed)
    (hg : g = id ∨ i.descriptor.mnemonic ∉ [.PHP, .BRK, .SED, .CLD, .PLP, .RTI]) (h : exec i s = .next t) :
    exec i (withHidden g k s) = .next (withHidden g k t) := by
  cases exec_shape i with
  | read he hexec =>
    rw [hexec] at h ⊢
    exact runRead_withHidden (readEffect_withHidden he) h
  | write hr hexec =>
    rw [hexec] at h ⊢
    rw [storedRegister_withHidden hr]
    exact runWrite_withHidden h
  | modify he hexec =>
    rw [hexec] at h ⊢
    exact runModify_withHidden (fun m u => (modifyEffect_withHidden he m u).1)
      (fun m u => (modifyEffect_withHidden he m u).2) h
  | implied he ho hexec =>
    rw [hexec] at h ⊢
    cases h
    rw [impliedEffect_withHidden he hg, ← retireAt_withHidden]
    rfl
  | @branch taken ht hexec =>
    rw [hexec] at h ⊢
    have htaken : taken (withHidden g k s) = taken s :=
      Option.some.inj ((ht _).symm.trans ((branchTaken_withHidden s).trans (ht s)))
    rw [htaken]
    exact runBranch_withHidden h
  | jump hmn hexec =>
    rw [hexec] at h ⊢
    exact runJump_withHidden (fun _ => rfl) h
  | jsr w hi =>
    subst hi
    have hrun : runJump 0x20 (.absolute w) (push16 (s.pc + 2)) s = .next t := h
    have hpush (u : State) : push16 (s.pc + 2) (withHidden g k u) = withHidden g k (push16 (s.pc + 2) u) := rfl
    exact runJump_withHidden hpush hrun
  | rts hi =>
    subst hi
    cases h
    rw [← retireAt_withHidden]
    rfl
  | brk hi =>
    subst hi
    obtain rfl : g = id := hg.resolve_right (by simp)
    cases h
    rw [← retireAt_withHidden, ← enterInterrupt_withHidden]
    rfl
  | rti hi =>
    subst hi
    obtain rfl : g = id := hg.resolve_right (by simp)
    cases h
    rw [← retireAt_withHidden]
    rfl
  | ill op hi =>
    subst hi
    cases h
    rw [← retireAt_withHidden]
    rfl

/-- Settles O25: D is neither written nor looked at. -/
theorem decimalFlagIsStorageOnly : Obligations.DecimalFlagIsStorageOnly := by
  unfold Obligations.DecimalFlagIsStorageOnly
  intro i s b hwf hmn
  obtain ⟨t, hexec, -⟩ := exec_completes i s
  have hwriters : i.descriptor.mnemonic ∉ writersOfD := by
    simp only [writersOfD, List.mem_cons, List.not_mem_nil, or_false] at hmn ⊢
    tauto
  exact ⟨t, hexec, (exec_keeps hwf hexec).d hwriters,
    exec_withHidden (g := fun _ => b) (k := 0) hwf (.inr hmn) hexec⟩

/-! ### The steps -/

theorem interruptEntry_withHidden (kind : InterruptKind) (k : Nat) (s : State) :
    interruptEntry kind (withHidden id k s) = withHidden id k (interruptEntry kind s) := by
  cases kind with
  | nmi =>
    rw [interruptEntry_nmi, interruptEntry_nmi, ← charge_withHidden, ← enterInterrupt_withHidden]
    rfl
  | irq =>
    rw [interruptEntry_irq, interruptEntry_irq, ← charge_withHidden, ← enterInterrupt_withHidden]
    rfl

theorem fetch_withHidden (k : Nat) (s : State) : (fetch (withHidden id k s)).1 = (fetch s).1 := by
  simp only [fetch, memRead_fst]
  cases hm : (lookupRow (s.mem.read s.pc.toNat)).make <;> simp only [withHidden, hm] <;> rfl

theorem fetched_withHidden (i : Instr) (k : Nat) (s : State) :
    fetched i (withHidden id k s) = withHidden id k (fetched i s) := rfl

theorem step_withHidden {s t : State} (k : Nat) (h : step s = .next t) :
    step (withHidden id k s) = .next (withHidden id k t) := by
  rcases step_next h with ⟨hf, rfl⟩ | ⟨hf, rfl⟩ | ⟨hf, hnmi, rfl⟩ | ⟨hf, hnmi, hirq, hi, rfl⟩ | ⟨hf, hnmi, hirq, -⟩
  · exact step_of_reset hf
  · exact step_of_halted hf
  · rw [← interruptEntry_withHidden]
    exact step_of_nmi hf hnmi
  · rw [← interruptEntry_withHidden]
    exact step_of_irq hf hnmi hirq hi
  · have hx : Executes s := ⟨hf, hnmi, hirq⟩
    have hx' : Executes (withHidden id k s) := hx
    rw [step_of_executes hx] at h
    rw [step_of_executes hx', fetch_withHidden, fetched_withHidden]
    exact exec_withHidden (fetch_makes s).2 (.inl rfl) h

/-- Settles O51: a step commutes with a change of CYC. -/
theorem nothingDependsOnCycleCounter : Obligations.NothingDependsOnCycleCounter := by
  unfold Obligations.NothingDependsOnCycleCounter
  exact fun s t k h => step_withHidden k h

end Sys2Proof.Machine
end
